-- ==== Sys2Proof/Word.lean ====
section
/-! DEFINITION. The word types of the ZNC-S8: what the manual itself treats as bits (bytes on the link, codes of
the converter, 16-bit and 32-bit numbers that wrap). Counts and times are natural numbers. -/
namespace Sys2Proof

/-- A byte of the host link or of a segment frame. -/
abbrev Byte := BitVec 8

/-- A 16-bit word: the frame check (R7), result ids (R87), pass numbers (R75), sets of flags (10.2). -/
abbrev Word16 := BitVec 16

/-- A 32-bit word: the timebase (00_scope), the summary stamp (R147), the frame counters (R15). -/
abbrev Word32 := BitVec 32

/-- A code of the converter, 0..4095 (R40). -/
abbrev Code := BitVec 12

end Sys2Proof
end

