-- ==== Sys2Proof/Config.lean ====
section
/-! DEFINITION. What an installation fixes and `State.reset` needs: the levels of the strap pins, of the power-sense
inputs and of the lines at power-on. -/
namespace Sys2Proof

/-- The level of a half-cell, or of the line, against the receive threshold (R4). -/
inductive Level where
  | high | low | flat
  deriving DecidableEq, Repr, Inhabited

/-- The levels of the strap pins when a full reset samples them (R125, R157). -/
structure Straps where
  /-- JOINMODE: high closes every switch at full reset (R125). -/
  joinMode : Bool
  /-- RATE1, RATE0: the rate of the host link (R157). -/
  rate1 : Bool
  rate0 : Bool
  deriving DecidableEq, Repr

/-- The straps at the power-on that `State.reset` stands for. DESIGN CHOICE (log 4), unsafe: all low. A FULL_RESET
command carries its own strap levels. -/
def Config.resetStraps : Straps := { joinMode := false, rate1 := false, rate0 := false }

/-- The power-sense signal of every port at that power-on. DESIGN CHOICE (log 4), unsafe: LOW, as on an unpowered
segment. -/
def Config.resetPowerGood : Bool := false

/-- The line of every port at that power-on. DESIGN CHOICE (log 4), unsafe: flat, as a line with no transmitter on it
(the note of R4). -/
def Config.resetLine : Level := .flat

end Sys2Proof
end

