-- ==== Sys2Proof/Syntax.lean ====
section
/-! DEFINITION. The commands of the ZNC-S8: one constructor for each row of spec/opcode_table.json. A request or ACK
is a whole valid frame with its TAG or SEQ byte and its payload bytes, so that the checks of R179 to R182 are made on
the bytes themselves. -/
namespace Sys2Proof

/-- A segment port, 0..7. -/
abbrev PortId := Fin 8

/-- A reaction entry, 0..23. -/
abbrev EntryId := Fin 24

/-- The commands. -/
inductive Instr where
  /-- FULL_RESET (R125): power-on or a low level on RESETN, with the strap levels sampled. -/
  | fullReset (straps : Straps)
  /-- SOFT_RESET (R173): the last byte of the RESET reply has been sent. -/
  | softReset
  /-- LINE_TRANSITION (R3): the line of `p` goes from the level `source` to the level `target` when `offset` half
  microseconds of the symbol time in progress have passed. -/
  | lineTransition (p : PortId) (source target : Level) (offset : Nat)
  /-- SYMBOL_DELIVERY (R4): a symbol time of `p` ends; `code` is the converter's code of a sample that spans it (R48,
  R49). `first` and `second` are free values: the level of a half-cell that held none for most of its time, where R4
  states no level; another half-cell takes no account of them (log 33). -/
  | symbolDelivery (p : PortId) (first second : Level) (code : Code)
  /-- POWER_SENSE_CHANGE (R23): the power-sense signal of `p` becomes GOOD or LOW. -/
  | powerSenseChange (p : PortId) (good : Bool)
  /-- SENSE_TIMER_EXPIRY (R23). -/
  | senseTimerExpiry (p : PortId)
  /-- DRAIN_EXPIRY (R22). -/
  | drainExpiry (p : PortId)
  /-- BUDGET_WINDOW_EXPIRY (R34). -/
  | budgetWindowExpiry (p : PortId)
  /-- DWELL_STEP (R31). -/
  | dwellStep (p : PortId)
  /-- OVERCURRENT_TRIP (R108): the segment current of `p` rises above the trip level. -/
  | overcurrentTrip (p : PortId)
  /-- HOLD_TIMER_EXPIRY (R110). -/
  | holdTimerExpiry (p : PortId)
  /-- SETTLE_TIMER_EXPIRY (R111). -/
  | settleTimerExpiry (p : PortId)
  /-- JOB_START (R44). -/
  | jobStart
  /-- ENGINE_SETTLE_END (R45). -/
  | engineSettleEnd
  /-- SAMPLE_END (R46): an ungated sample ends with the converter's `code`. -/
  | sampleEnd (code : Code)
  /-- GATE_TIMEOUT (R50). -/
  | gateTimeout
  /-- PASS_FLOOR_EXPIRY (R76). -/
  | passFloorExpiry
  /-- PACE_TICK (R77). -/
  | paceTick
  /-- HOLDBACK_EXPIRY (R137). -/
  | holdbackExpiry (entry : EntryId)
  /-- GAP_TIMER_EXPIRY (R158). -/
  | gapTimerExpiry
  /-- FRAME_DISCARD (R159): an invalid frame is thrown away. -/
  | frameDiscard
  /-- UNKNOWN_KIND (R160): a valid frame whose KIND is neither a request nor ACK. -/
  | unknownKind (kind tag : Byte) (payload : List Byte)
  /-- HELLO (R164). -/
  | hello (tag : Byte) (payload : List Byte)
  /-- STATUS (R172). -/
  | status (tag : Byte) (payload : List Byte)
  /-- RESET (R173). -/
  | reset (tag : Byte) (payload : List Byte)
  /-- PORT_SET (R35). -/
  | portSet (tag : Byte) (payload : List Byte)
  /-- PORT_GET (R37). -/
  | portGet (tag : Byte) (payload : List Byte)
  /-- PORT_JOIN (R117). -/
  | portJoin (tag : Byte) (payload : List Byte)
  /-- PORT_ISOLATE (R118). -/
  | portIsolate (tag : Byte) (payload : List Byte)
  /-- COUNTS (R16). -/
  | counts (tag : Byte) (payload : List Byte)
  /-- SURVEY_PUT (R66). -/
  | surveyPut (tag : Byte) (payload : List Byte)
  /-- SURVEY_GET (R67). -/
  | surveyGet (tag : Byte) (payload : List Byte)
  /-- SURVEY_RUN (R68). -/
  | surveyRun (tag : Byte) (payload : List Byte)
  /-- SURVEY_HOLD (R69). -/
  | surveyHold (tag : Byte) (payload : List Byte)
  /-- SURVEY_RESUME (R70). -/
  | surveyResume (tag : Byte) (payload : List Byte)
  /-- SURVEY_STOP (R71). -/
  | surveyStop (tag : Byte) (payload : List Byte)
  /-- SPOT (R81). -/
  | spot (tag : Byte) (payload : List Byte)
  /-- SPOT_CANCEL (R84). -/
  | spotCancel (tag : Byte) (payload : List Byte)
  /-- MONITOR_SET (R101). -/
  | monitorSet (tag : Byte) (payload : List Byte)
  /-- MONITOR_GET (R102). -/
  | monitorGet (tag : Byte) (payload : List Byte)
  /-- REACTION_SET (R132). -/
  | reactionSet (tag : Byte) (payload : List Byte)
  /-- REACTION_GET (R134). -/
  | reactionGet (tag : Byte) (payload : List Byte)
  /-- REACTION_ARM (R133). -/
  | reactionArm (tag : Byte) (payload : List Byte)
  /-- SUMMARY_GET (R148). -/
  | summaryGet (tag : Byte) (payload : List Byte)
  /-- SUMMARY_CLEAR (R149). -/
  | summaryClear (tag : Byte) (payload : List Byte)
  /-- NOTIFY_MASK (R151). -/
  | notifyMask (tag : Byte) (payload : List Byte)
  /-- ACK (R170): the host acknowledges the report `seq` and all older ones. -/
  | ack (seq : Byte) (payload : List Byte)
  /-- FRAME_SENT (R167): the last byte of the frame on TXD has left. -/
  | frameSent
  /-- ACK_TIMER_EXPIRY (R171). -/
  | ackTimerExpiry
  /-- LINK_WATCHDOG_EXPIRY (R165). -/
  | linkWatchdogExpiry
  /-- BYTE_RECEIVED (R158): a byte on RXD; `framingOk` is no where its stop bit was sampled low (R157). -/
  | byteReceived (byte : Byte) (framingOk : Bool)
  deriving DecidableEq, Repr

end Sys2Proof
end

