-- ==== Sys2Proof/Decode.lean ====
section
/-! DEFINITION. The command that a word spells by the table's bits. No row of spec/opcode_table.json gives bits, so no
word spells a command. (The bytes of a request frame are decoded by the receiver and the handlers: R158, R179.) -/
namespace Sys2Proof

/-- The command spelled by a word of the table: none, for the table gives no row any bits (log 21). -/
def decodeTableWord (_nbits _w : Nat) : Option Instr := none

end Sys2Proof
end

