-- ==== Sys2Proof/Machine/State.lean ====
section
/-! DEFINITION. The state of the ZNC-S8, block by block as 00_scope.md lists them, and its value right after a full
reset. Plain data throughout. Times are held in half microseconds, since the half-cell of 12.5 us (section 1.2) is the
shortest time the manual names; a timer that is stopped is `none`, a running one holds its time to go (the sense timer:
its time run). -/
namespace Sys2Proof.Machine

/-- Half microseconds in a millisecond. -/
def ticksPerMs : Nat := 2000

/-- The 10 ms step of the dwell (R31). -/
def dwellTicks : Nat := 10 * ticksPerMs

/-! ## Line tap (chapter 1) -/

/-- Symbol classes (R4). -/
inductive SymClass where
  | one | zero | mh | ml | quiet | junk
  deriving DecidableEq, Repr

/-- Frame outcomes (R9 to R11). -/
inductive FrameOutcome where
  | good | badCheck | broken | overlong
  deriving DecidableEq, Repr

/-- Symbol timing (R3). -/
inductive Timing where
  | free | locked
  deriving DecidableEq, Repr

/-- Recogniser states (1.4). -/
inductive RecogState where
  | hunt | preamble | start | body | ending
  deriving DecidableEq, Repr

/-- The recogniser record (table of 1.4). -/
structure Recogniser where
  state : RecogState
  preambleCount : Nat
  delimPos : Nat
  byteCount : Nat
  bitPos : Nat
  byteInProgress : Byte
  /-- The most recent completed body bytes, oldest first, at most two. -/
  held : List Byte
  runningCheck : Word16
  deriving DecidableEq, Repr

/-- The record at every entry into HUNT (R8). -/
def Recogniser.hunting : Recogniser :=
  { state := .hunt, preambleCount := 0, delimPos := 0, byteCount := 0, bitPos := 0, byteInProgress := 0, held := [],
    runningCheck := 0xFFFF }

/-- The five frame counters (R15). -/
structure Counters where
  good : Word32
  badCheck : Word32
  broken : Word32
  overlong : Word32
  junk : Word32
  deriving DecidableEq, Repr

/-- Counters after full reset, soft reset and COUNTS with ZERO (R15, R16). -/
def Counters.zero : Counters := { good := 0, badCheck := 0, broken := 0, overlong := 0, junk := 0 }

/-- How long a half-cell has held each level, in half microseconds (R4). -/
structure HalfCell where
  high : Nat
  low : Nat
  flat : Nat
  deriving DecidableEq, Repr

/-- A half-cell of which no time has passed. -/
def HalfCell.fresh : HalfCell := { high := 0, low := 0, flat := 0 }

/-- The line tap of a port (chapter 1). -/
structure Tap where
  timing : Timing
  /-- Half microseconds of the symbol time in progress that have passed, 0..50 (R3). -/
  position : Nat
  /-- The symbol in progress holds a mid-half transition (R3, R4). -/
  midHalf : Bool
  /-- The two half-cells of the symbol in progress (R4). -/
  first : HalfCell
  second : HalfCell
  recog : Recogniser
  /-- The TRAFFIC gate (R14). -/
  trafficGate : Bool
  counters : Counters
  deriving DecidableEq, Repr

/-- The tap at full reset (R17). -/
def Tap.atReset : Tap :=
  { timing := .free, position := 0, midHalf := false, first := .fresh, second := .fresh, recog := .hunting
    trafficGate := false, counters := .zero }

/-! ## Line classifier (chapter 2) -/

/-- Line conditions (2.1). -/
inductive Condition where
  | unseen | dark | quiet | traffic | noisy | jabber
  deriving DecidableEq, Repr

/-- Cause of entry (R30). -/
inductive EntryCause where
  | observed | switched
  deriving DecidableEq, Repr

/-- The condition record (2.1). -/
structure CondRec where
  condition : Condition
  cause : EntryCause
  entryTime : Word32
  /-- Time in the condition in whole 10 ms units, stopping at 65535 (R31). -/
  dwell : Nat
  /-- Time to the next 10 ms step of the dwell (R31). -/
  dwellLeft : Nat
  noiseLevel : Nat
  drain : Option Nat
  activeRun : Nat
  quietRun : Nat
  /-- The sense timer: stopped, or the time it has run, up to 2 ms (R23). -/
  sense : Option Nat
  budgetLeft : Nat
  budgetTimer : Option Nat
  /-- The QUIET gate (R32). -/
  quietGate : Bool
  deriving DecidableEq, Repr

/-- The nine port parameters (2.6), each in the unit of its table row. -/
structure Params where
  noiseCeiling : Nat
  drainInterval : Nat
  frameLimit : Nat
  errorBudget : Nat
  budgetWindow : Nat
  holdTime : Nat
  settleTime : Nat
  probeLimit : Nat
  maxRetries : Nat
  deriving DecidableEq, Repr

/-- The defaults of 2.6. -/
def Params.defaults : Params :=
  { noiseCeiling := 16, drainInterval := 10, frameLimit := 272, errorBudget := 20, budgetWindow := 60, holdTime := 50,
    settleTime := 20, probeLimit := 3000, maxRetries := 3 }

/-- The condition record at full reset, with the switch closed or open and power-sense GOOD or LOW (R38). -/
def CondRec.atReset (closed powerGood : Bool) : CondRec :=
  { condition := if closed then .unseen else .dark
    cause := if closed then .observed else .switched
    entryTime := 0, dwell := 0, dwellLeft := dwellTicks, noiseLevel := 0, drain := none, activeRun := 0, quietRun := 0
    sense := if closed && !powerGood then some 0 else none
    budgetLeft := 20, budgetTimer := some (60 * 1000 * ticksPerMs), quietGate := false }

/-! ## Port switch unit (chapter 6) -/

/-- Port switch states (6.1). -/
inductive SwitchState where
  | isolated | holdoff | probing | joined
  deriving DecidableEq, Repr

/-- Causes of the last isolation (6.1). -/
inductive IsolationCause where
  | host | reaction | giveup | strap
  deriving DecidableEq, Repr

/-- The probe slot (6.1). -/
inductive ProbeSlot where
  | empty | waiting | inEngine
  deriving DecidableEq, Repr

/-- The port switch record (6.1). -/
structure SwitchRec where
  state : SwitchState
  cause : IsolationCause
  retries : Nat
  hold : Option Nat
  settle : Option Nat
  slot : ProbeSlot
  lastProbe : Option Nat
  deriving DecidableEq, Repr

/-- The port switch record at full reset under the JOINMODE strap (R125). -/
def SwitchRec.atReset (joinMode : Bool) : SwitchRec :=
  { state := if joinMode then .probing else .isolated
    cause := .strap, retries := 0, hold := none
    settle := if joinMode then some (20 * ticksPerMs) else none
    slot := .empty, lastProbe := none }

/-- One port: tap, classifier, parameters, switch unit, the power-sense signal (R1) and the present level of the line
(R4). -/
structure Port where
  tap : Tap
  cond : CondRec
  params : Params
  switch : SwitchRec
  powerGood : Bool
  line : Level
  deriving DecidableEq, Repr

/-- A port at full reset. -/
def Port.atReset (joinMode powerGood : Bool) (line : Level) : Port :=
  { tap := .atReset, cond := .atReset joinMode powerGood, params := .defaults, switch := .atReset joinMode
    powerGood := powerGood, line := line }

/-! ## Measurement engine (chapter 3) -/

/-- The five quantities (3.1). -/
inductive Quantity where
  | vseg | iseg | sigamp | noise | screen
  deriving DecidableEq, Repr

/-- A survey slot, 0..47. -/
abbrev SlotId := Fin 48

/-- Where a job came from, with its origin (3.2). -/
inductive Origin where
  | probe (p : PortId)
  | spot (tag : Byte)
  | survey (slot : SlotId) (pass : Word16)
  deriving DecidableEq, Repr

/-- What becomes of a result (3.2). -/
inductive ReportMode where
  | reported | silent | none
  deriving DecidableEq, Repr

/-- Job phases (3.2). -/
inductive Phase where
  | settling | sampling | gated
  deriving DecidableEq, Repr

/-- The sample in flight of a job (R40): none, a timed sample of an ungated quantity (R46), or a sample that spans a
symbol of the port's tap, with whether the gate has stayed open since it began (R48, R49). -/
inductive Sample where
  | idle
  | timed (left : Nat)
  | symbol (gateHeld : Bool)
  deriving DecidableEq, Repr

/-- The job record (3.2). -/
structure Job where
  origin : Origin
  port : PortId
  quantity : Quantity
  e : Nat
  shift : Nat
  /-- In ms (3.2). -/
  gateTimeout : Nat
  report : ReportMode
  reserved : Bool
  sum : Nat
  samplesDone : Nat
  /-- Time spent in GATED, in half microseconds (R50). -/
  gateWait : Nat
  phase : Phase
  /-- What is left of the settle interval (R41). -/
  settleLeft : Nat
  sample : Sample
  deriving DecidableEq, Repr

/-- The engine (chapter 3). `handingOver` is the model's own: yes only within a step, while a completion is handed
over and before the engine's choice that follows it (R52; log 8). -/
structure Engine where
  mux : Option (PortId × Quantity)
  active : Option Job
  parked : Option Job
  handingOver : Bool
  deriving DecidableEq, Repr

/-- The engine at full reset and at soft reset (R62, R63). -/
def Engine.idle : Engine := { mux := none, active := none, parked := none, handingOver := false }

/-! ## Survey sequencer and spot queue (chapter 4) -/

/-- A survey entry (4.1). -/
structure SurveyEntry where
  port : PortId
  quantity : Quantity
  e : Nat
  shift : Nat
  gateTimeout : Nat
  /-- yes REPORTED, no SILENT. -/
  reported : Bool
  enabled : Bool
  deriving DecidableEq, Repr

/-- Survey states (4.2). -/
inductive SurveyState where
  | stopped | running | held
  deriving DecidableEq, Repr

/-- Survey modes (4.2). -/
inductive SurveyMode where
  | continuous | timed | single
  deriving DecidableEq, Repr

/-- Pacing (4.2). -/
inductive Pacing where
  | stall | overwrite
  deriving DecidableEq, Repr

/-- Preempt policies (4.2, R58). -/
inductive PreemptPolicy where
  | keep | restart
  deriving DecidableEq, Repr

/-- The survey list and the survey record (4.1, 4.2). -/
structure Survey where
  slots : Vector (Option SurveyEntry) 48
  state : SurveyState
  mode : SurveyMode
  pacing : Pacing
  policy : PreemptPolicy
  /-- Pace interval in ms. -/
  interval : Nat
  /-- 0..48. -/
  cursor : Nat
  inPass : Bool
  passNumber : Word16
  passStart : Word32
  pace : Option Nat
  /-- What is left of the 1 ms pass floor of the latest pass (R76). -/
  floorLeft : Nat
  tickPending : Bool
  lost : Nat
  deriving DecidableEq, Repr

/-- The survey at full reset (R85). -/
def Survey.atReset : Survey :=
  { slots := Vector.replicate 48 none, state := .stopped, mode := .continuous, pacing := .stall, policy := .keep
    interval := 1000, cursor := 0, inPass := false, passNumber := 0, passStart := 0, pace := none, floorLeft := 0
    tickPending := false, lost := 0 }

/-- A spot request (4.5). -/
structure SpotRequest where
  tag : Byte
  port : PortId
  quantity : Quantity
  e : Nat
  shift : Nat
  gateTimeout : Nat
  deriving DecidableEq, Repr

/-! ## Result unit (chapter 5) -/

/-- How a job ended (R52). -/
inductive JobStatus where
  | ok | gateTimeout | portOff
  deriving DecidableEq, Repr

/-- The queue state of a result or event record: SENT carries its report sequence number (R89, R153, R168). -/
inductive SendState where
  | waiting
  | sent (seq : Byte)
  deriving DecidableEq, Repr

/-- A verdict: a monitor and whether its new state is OUTSIDE (5.1). -/
structure Verdict where
  monitor : Fin 12
  outside : Bool
  deriving DecidableEq, Repr

/-- A result record (5.1). The origin kind, origin id and pass are in `origin`, which is never a probe. -/
structure ResultRec where
  id : Word16
  origin : Origin
  port : PortId
  quantity : Quantity
  status : JobStatus
  samples : Nat
  value : Option Nat
  time : Word32
  lost : Option Nat
  verdicts : List Verdict
  send : SendState
  deriving DecidableEq, Repr

/-- Which results a monitor tests (R96, R97). -/
inductive AppliesTo where
  | survey | spot | both
  deriving DecidableEq, Repr

/-- A monitor's state for one port (R96). -/
structure MonitorPort where
  outside : Bool
  insideCount : Nat
  deriving DecidableEq, Repr

/-- INSIDE with inside count 0. -/
def MonitorPort.inside : MonitorPort := { outside := false, insideCount := 0 }

/-- A window monitor (R96). -/
structure Monitor where
  quantity : Quantity
  /-- The set of guarded ports, bit n for port n. -/
  guarded : Byte
  low : Nat
  high : Nat
  releaseCount : Nat
  appliesTo : AppliesTo
  alertEnable : Bool
  ports : Vector MonitorPort 8
  deriving DecidableEq, Repr

/-- A monitor at full reset (R96, R104). -/
def Monitor.atReset : Monitor :=
  { quantity := .vseg, guarded := 0, low := 0, high := 1048575, releaseCount := 1, appliesTo := .both
    alertEnable := false, ports := Vector.replicate 8 .inside }

/-- The result unit (chapter 5). -/
structure Results where
  queue : List ResultRec
  reservations : Nat
  nextId : Word16
  monitors : Vector Monitor 12
  /-- The ALERT pin (R103). -/
  alert : Bool
  deriving DecidableEq, Repr

/-- The result unit at full reset (R95, R104). -/
def Results.atReset : Results :=
  { queue := [], reservations := 0, nextId := 0, monitors := Vector.replicate 12 .atReset, alert := false }

/-! ## Reaction unit (chapter 7) -/

/-- Trigger kinds (7.1). -/
inductive TriggerKind where
  | condition | dwell | monTrip | monRelease | budget | trip | giveup | linkLost
  deriving DecidableEq, Repr

/-- Actions (7.1). -/
inductive ReactionAction where
  | isolate | rejoin | spot | notify | surveyHold | surveyResume
  deriving DecidableEq, Repr

/-- Outcomes of a firing (R140). -/
inductive FireOutcome where
  | none | done | refusedFull | refusedState
  deriving DecidableEq, Repr

/-- The configuration fields of an entry (7.1) as REACTION_SET wrote them. A field that the kind or the action may
leave unused keeps its byte as written, since REACTION_GET returns it so (R134; log 15). -/
structure ReactionConfig where
  kind : TriggerKind
  condition : Byte
  threshold : Word16
  monitor : Byte
  port : Byte
  action : ReactionAction
  spotQuantity : Byte
  spotE : Byte
  spotShift : Byte
  spotGateTimeout : Word16
  target : Byte
  /-- yes REPEAT, no ONCE. -/
  repeats : Bool
  holdback : Word16
  deriving DecidableEq, Repr

/-- A reaction entry that is not EMPTY (7.1). -/
structure ReactionEntry where
  config : ReactionConfig
  armed : Bool
  fireCount : Nat
  lastFire : Option Word32
  lastOutcome : FireOutcome
  holdbackTimer : Option Nat
  deriving DecidableEq, Repr

/-! ## Summary unit (chapter 8) -/

/-- A summary source: ports 0..7, and DEVICE as 8 (10.2). -/
abbrev SourceId := Fin 9

/-- A flag's number in its source's set (10.2); DEVICE uses 0..3. -/
abbrev FlagId := Fin 11

/-- An event record (R152). -/
structure EventRec where
  source : SourceId
  flags : Word16
  newest : Word32
  /-- Entry indexes, ascending, each at most once. -/
  notes : List Nat
  created : Word32
  send : SendState
  deriving DecidableEq, Repr

/-- The summary unit (chapter 8): for each flag, CLEAR or SET with its set-stamp. -/
structure Summary where
  flags : Vector (Vector (Option Word32) 11) 9
  stamp : Word32
  masks : Vector Word16 9
  events : List EventRec
  deriving DecidableEq, Repr

/-- All flags CLEAR. -/
def Summary.noFlags : Vector (Vector (Option Word32) 11) 9 := Vector.replicate 9 (Vector.replicate 11 none)

/-- The summary unit at full reset (R155). -/
def Summary.atReset : Summary :=
  { flags := Summary.noFlags, stamp := 0, masks := Vector.replicate 9 0, events := [] }

/-! ## Host link (chapter 9) -/

/-- Receive states (R158). -/
inductive RxState where
  | hunt | length | body | check
  deriving DecidableEq, Repr

/-- The receiver (R158). -/
structure Receiver where
  state : RxState
  len : Nat
  body : List Byte
  check : List Byte
  gap : Option Nat
  deriving DecidableEq, Repr

/-- The receiver in HUNT with no frame in progress (R158, R175). -/
def Receiver.hunting : Receiver := { state := .hunt, len := 0, body := [], check := [], gap := none }

/-- Session states (9.4). -/
inductive SessionState where
  | closed | opened | lost
  deriving DecidableEq, Repr

/-- The session record (R163), the four parameters in HELLO's units. -/
structure Session where
  state : SessionState
  window : Nat
  /-- In 10 ms units. -/
  ackTimeout : Nat
  retransmitLimit : Nat
  /-- In 100 ms units, 0 off. -/
  watchdogPeriod : Nat
  nextSeq : Byte
  retryCount : Nat
  ackTimer : Option Nat
  watchdog : Option Nat
  /-- The numbers of the SENT reports still to be sent again (R171). -/
  retransmit : List Byte
  deriving DecidableEq, Repr

/-- The session at full reset (R163). -/
def Session.atReset : Session :=
  { state := .closed, window := 1, ackTimeout := 100, retransmitLimit := 3, watchdogPeriod := 0, nextSeq := 0
    retryCount := 0, ackTimer := none, watchdog := none, retransmit := [] }

/-- A request frame held during reset pending (R174). -/
structure HeldFrame where
  kind : Byte
  tag : Byte
  payload : List Byte
  deriving DecidableEq, Repr

/-- An entry of the reply cache (R162). -/
structure CacheEntry where
  tag : Byte
  kind : Byte
  body : List Byte
  deriving DecidableEq, Repr

/-- The frame on TXD: a reply or a report, with all its bytes (R167, R177). -/
structure LineFrame where
  report : Bool
  bytes : List Byte
  deriving DecidableEq, Repr

/-- The host link (chapter 9). -/
structure Link where
  rate1 : Bool
  rate0 : Bool
  rx : Receiver
  discarded : Nat
  /-- The bodies of the queued replies, the head first (R161). -/
  replies : List (List Byte)
  /-- Oldest first (R162). -/
  cache : List CacheEntry
  hold : List HeldFrame
  resetPending : Bool
  session : Session
  line : Option LineFrame
  deriving DecidableEq, Repr

/-- The host link at full reset (R175). -/
def Link.atReset (rate1 rate0 : Bool) : Link :=
  { rate1 := rate1, rate0 := rate0, rx := .hunting, discarded := 0, replies := [], cache := [], hold := []
    resetPending := false, session := .atReset, line := none }

/-! ## The whole part -/

/-- The ZNC-S8 and the queue of commands that wait for it. -/
structure State where
  /-- The millisecond timebase (00_scope). -/
  timebase : Word32
  /-- Half microseconds of the current millisecond that have passed, 0..1999. -/
  subMs : Nat
  /-- The JOINMODE strap as the last full reset sampled it (R125). -/
  joinMode : Bool
  ports : Vector Port 8
  engine : Engine
  survey : Survey
  spots : List SpotRequest
  results : Results
  reactions : Vector (Option ReactionEntry) 24
  summary : Summary
  link : Link
  /-- The commands that are waiting, first in, first out. -/
  pending : List Instr
  deriving DecidableEq, Repr

/-- The part after a full reset under the given straps, with the given power-sense signals and line levels, and no
command waiting (R17, R38, R63, R85, R95, R104, R125, R144, R155, R175). -/
def State.atReset (straps : Straps) (powerGood : Vector Bool 8) (lines : Vector Level 8) : State :=
  { timebase := 0, subMs := 0, joinMode := straps.joinMode
    ports := #v[Port.atReset straps.joinMode powerGood[0] lines[0], Port.atReset straps.joinMode powerGood[1] lines[1],
      Port.atReset straps.joinMode powerGood[2] lines[2], Port.atReset straps.joinMode powerGood[3] lines[3],
      Port.atReset straps.joinMode powerGood[4] lines[4], Port.atReset straps.joinMode powerGood[5] lines[5],
      Port.atReset straps.joinMode powerGood[6] lines[6], Port.atReset straps.joinMode powerGood[7] lines[7]]
    engine := .idle, survey := .atReset, spots := [], results := .atReset, reactions := Vector.replicate 24 none
    summary := .atReset, link := .atReset straps.rate1 straps.rate0, pending := [] }

/-- The machine right after reset (log 4 for the straps, the power-sense inputs and the lines). -/
def State.reset : State :=
  State.atReset Config.resetStraps (Vector.replicate 8 Config.resetPowerGood) (Vector.replicate 8 Config.resetLine)

/-- Faults: none. The manual names no condition that stops the part; a bad frame or a request it does not carry out is
a next state (R159, R181). -/
inductive Fault where
  deriving DecidableEq, Repr

/-- Refusals. -/
inductive Refusal where
  /-- Raised by `exec` alone, for a command that has no meaning yet; safe. No arm raises it now. -/
  | notModelled (mnemonic : String)
  deriving DecidableEq, Repr

end Sys2Proof.Machine
end

