-- ==== Sys2Proof/Machine/Ops.lean ====
section
/-! DEFINITION. Shared operations: fixed-size tables, the frame check, access to one port, and the passing of time. -/
namespace Sys2Proof.Machine

/-! ## Fixed-size tables -/

/-- All indexes below `n`, ascending. -/
def indexes : (n : Nat) → List (Fin n)
  | 0 => []
  | n + 1 => 0 :: (indexes n).map Fin.succ

/-- A table with `f` applied to every element. -/
def vmap {α β : Type} {n : Nat} (f : α → β) (v : Vector α n) : Vector β n := ⟨(v.toList.map f).toArray, by simp⟩

/-- A count that stops at `limit`. -/
def addUpTo (limit n : Nat) : Nat := if n < limit then n + 1 else n

/-- `a / b`, rounded up. -/
def ceilDiv (a b : Nat) : Nat := (a + b - 1) / b

/-- The mask of a set whose members are the `n` of `0..width-1` with `f n` (10.2). -/
def maskOf (width : Nat) (f : Nat → Bool) : Nat :=
  (List.range width).foldl (fun acc i => if f i then acc + 2 ^ i else acc) 0

/-! ## The frame check (R7) -/

/-- One bit through the check register. -/
def checkBit (r : Word16) (bit : Bool) : Word16 :=
  if bit != r.msb then (r <<< 1) ^^^ 0x1021 else r <<< 1

/-- One byte through the check register, most significant bit first. -/
def checkByte (r : Word16) (b : Byte) : Word16 :=
  [b.getLsbD 7, b.getLsbD 6, b.getLsbD 5, b.getLsbD 4, b.getLsbD 3, b.getLsbD 2, b.getLsbD 1, b.getLsbD 0].foldl
    checkBit r

/-- The frame check of R7 over the covered bytes. -/
def frameCheck (covered : List Byte) : Word16 := covered.foldl checkByte 0xFFFF

/-- Two check bytes read as a check, the first as the high byte. -/
def checkValue (hi lo : Byte) : Word16 := hi ++ lo

/-! ## Access to one port -/

/-- A port's records. -/
def State.port (s : State) (p : PortId) : Port := s.ports[p]

/-- The state with port `p` changed by `f`. -/
def State.modPort (s : State) (p : PortId) (f : Port → Port) : State :=
  { s with ports := s.ports.set p (f s.ports[p]) }

/-- The switch is closed in PROBING and JOINED (R106). -/
def SwitchState.closed : SwitchState → Bool
  | .isolated => false
  | .holdoff => false
  | .probing => true
  | .joined => true

/-- Whether the switch of port `p` is closed. -/
def State.closed (s : State) (p : PortId) : Bool := (s.port p).switch.state.closed

/-! ## Durations -/

/-- One symbol time, 25 us (1.2). -/
def symbolTicks : Nat := 50

/-- One half-cell, 12.5 us: the mid-point of a symbol (1.2). -/
def halfCellTicks : Nat := 25

/-- One microsecond. -/
def ticksPerUs : Nat := 2

/-- The debounce time of power-sense, 2 ms (R23). -/
def senseTicks : Nat := 2 * ticksPerMs

/-- One second. -/
def ticksPerSecond : Nat := 1000 * ticksPerMs

/-! ## The passing of time

`State.elapse d` lets `d` half microseconds pass: the timebase advances and every running timer comes closer to its
end, where it waits for its expiry command (log 2, log 5). -/

/-- A half-cell holds `line` for `d` half microseconds more (R4). -/
def HalfCell.hold (line : Level) (d : Nat) (h : HalfCell) : HalfCell :=
  match line with
  | .high => { h with high := h.high + d }
  | .low => { h with low := h.low + d }
  | .flat => { h with flat := h.flat + d }

/-- The symbol in progress while the switch is closed (R3, R4, R6): its position moves on, and the half-cells that the
time passes through hold the line's level. -/
def Tap.elapse (closed : Bool) (line : Level) (d : Nat) (t : Tap) : Tap :=
  if closed then
    let position := min symbolTicks (t.position + d)
    { t with
      position := position
      first := t.first.hold line (min halfCellTicks position - min halfCellTicks t.position)
      second := t.second.hold line (max halfCellTicks position - max halfCellTicks t.position) }
  else t

/-- The classifier's timers (R22, R23, R31, R34). -/
def CondRec.elapse (d : Nat) (r : CondRec) : CondRec :=
  { r with
    dwellLeft := r.dwellLeft - d
    drain := r.drain.map (· - d)
    sense := r.sense.map fun run => min senseTicks (run + d)
    budgetTimer := r.budgetTimer.map (· - d) }

/-- The switch unit's timers (R110, R111). -/
def SwitchRec.elapse (d : Nat) (w : SwitchRec) : SwitchRec :=
  { w with hold := w.hold.map (· - d), settle := w.settle.map (· - d) }

/-- All of a port's times. -/
def Port.elapse (d : Nat) (p : Port) : Port :=
  { p with
    tap := p.tap.elapse p.switch.state.closed p.line d
    cond := p.cond.elapse d
    switch := p.switch.elapse d }

/-- What is left of a timed sample (R46). -/
def Sample.elapse (d : Nat) : Sample → Sample
  | .idle => .idle
  | .timed left => .timed (left - d)
  | .symbol gateHeld => .symbol gateHeld

/-- The active job: the settle interval and a timed sample run down, and gate wait used rises in GATED (R41, R46,
R50). -/
def Job.elapse (d : Nat) (j : Job) : Job :=
  match j.phase with
  | .settling => { j with settleLeft := j.settleLeft - d }
  | .sampling => { j with sample := j.sample.elapse d }
  | .gated => { j with gateWait := min (j.gateTimeout * ticksPerMs) (j.gateWait + d) }

/-- The engine: a parked job's times stand still (R58). -/
def Engine.elapse (d : Nat) (g : Engine) : Engine := { g with active := g.active.map (Job.elapse d) }

/-- The pace timer and the pass floor (R76, R77). -/
def Survey.elapse (d : Nat) (v : Survey) : Survey :=
  { v with pace := v.pace.map (· - d), floorLeft := v.floorLeft - d }

/-- An entry's holdback timer, which also runs while the entry is disarmed (R137). -/
def ReactionEntry.elapse (d : Nat) (e : ReactionEntry) : ReactionEntry :=
  { e with holdbackTimer := e.holdbackTimer.map (· - d) }

/-- The gap timer, the ack timer and the link watchdog (R158, R165, R169). -/
def Link.elapse (d : Nat) (l : Link) : Link :=
  { l with
    rx := { l.rx with gap := l.rx.gap.map (· - d) }
    session := { l.session with
      ackTimer := l.session.ackTimer.map (· - d)
      watchdog := l.session.watchdog.map (· - d) } }

/-- `d` half microseconds pass. -/
def State.elapse (d : Nat) (s : State) : State :=
  { s with
    timebase := s.timebase + BitVec.ofNat 32 ((s.subMs + d) / ticksPerMs)
    subMs := (s.subMs + d) % ticksPerMs
    ports := vmap (Port.elapse d) s.ports
    engine := s.engine.elapse d
    survey := s.survey.elapse d
    reactions := vmap (Option.map (ReactionEntry.elapse d)) s.reactions
    link := s.link.elapse d }

end Sys2Proof.Machine
end

