-- ==== Sys2Proof/Machine/Tap.lean ====
section
/-! DEFINITION. The line tap of one port (chapter 1): classes, recogniser, counters, gate and timing. -/
namespace Sys2Proof.Machine

/-- The level of a half-cell: the one it holds for most of its time (R4). Where it holds none for so long, R4 states no
level, and it is `undecided` (log 33). -/
def HalfCell.level (undecided : Level) (h : HalfCell) : Level :=
  let total := h.high + h.low + h.flat
  if total < 2 * h.high then .high
  else if total < 2 * h.low then .low
  else if total < 2 * h.flat then .flat
  else undecided

/-- The time of another half-cell joins this one: the edge between them has moved behind it (R3). -/
def HalfCell.join (h k : HalfCell) : HalfCell :=
  { high := h.high + k.high, low := h.low + k.low, flat := h.flat + k.flat }

/-- The class of a symbol from its two half-cells (table of R4). -/
def classOfLevels : Level → Level → SymClass
  | .high, .low => .one
  | .low, .high => .zero
  | .high, .high => .mh
  | .low, .low => .ml
  | .flat, .flat => .quiet
  | .high, .flat => .junk
  | .low, .flat => .junk
  | .flat, .high => .junk
  | .flat, .low => .junk

/-- A symbol that holds a mid-half transition is JUNK (R4). -/
def symbolClass (midHalf : Bool) (first second : Level) : SymClass :=
  if midHalf then .junk else classOfLevels first second

/-- The start delimiter (1.3). -/
def startDelimiter : List SymClass := [.ml, .mh, .one, .ml, .mh, .zero, .one, .zero]

/-- The end delimiter (1.3). -/
def endDelimiter : List SymClass := [.ml, .mh, .zero, .mh, .ml, .one, .zero, .one]

/-- What one symbol gives besides its class (R12): at most one of completion and outcome. -/
inductive Indication where
  | nothing
  | startCompletion
  | outcome (o : FrameOutcome)
  deriving DecidableEq, Repr

/-- HUNT and PREAMBLE (R8). -/
def recogHunt (c : SymClass) : Recogniser :=
  if c = .one then { Recogniser.hunting with state := .preamble, preambleCount := 1 } else .hunting

/-- PREAMBLE (R8). -/
def recogPreamble (c : SymClass) (r : Recogniser) : Recogniser :=
  match c with
  | .one => { r with preambleCount := addUpTo 4 r.preambleCount }
  | .ml => if r.preambleCount = 4 then { r with state := .start, delimPos := 1 } else .hunting
  | .zero => .hunting
  | .mh => .hunting
  | .quiet => .hunting
  | .junk => .hunting

/-- START (R9). -/
def recogStart (c : SymClass) (r : Recogniser) : Recogniser × Indication :=
  if startDelimiter[r.delimPos]? = some c then
    if r.delimPos + 1 = 8 then
      ({ r with state := .body, delimPos := 8, byteCount := 0, bitPos := 0, byteInProgress := 0, held := [],
                runningCheck := 0xFFFF }, .startCompletion)
    else ({ r with delimPos := r.delimPos + 1 }, .nothing)
  else if c = .junk ∨ c = .quiet then (.hunting, .outcome .broken)
  else (.hunting, .nothing)

/-- A completed body byte, steps 1 to 3 of R10. -/
def completeByte (b : Byte) (r : Recogniser) : Recogniser :=
  let r :=
    match r.held with
    | [b0, b1] => { r with runningCheck := checkByte r.runningCheck b0, held := [b1] }
    | _ => r
  { r with held := r.held ++ [b], byteCount := r.byteCount + 1, bitPos := 0, byteInProgress := 0 }

/-- A body bit (R10). -/
def recogBit (limit : Nat) (bit : Bool) (r : Recogniser) : Recogniser × Indication :=
  let b : Byte := (r.byteInProgress <<< 1) ||| (if bit then 1 else 0)
  if r.bitPos + 1 = 8 then
    let r := completeByte b r
    if limit < r.byteCount then (.hunting, .outcome .overlong) else (r, .nothing)
  else ({ r with byteInProgress := b, bitPos := r.bitPos + 1 }, .nothing)

/-- BODY (R10), with the frame limit in force (R13). -/
def recogBody (limit : Nat) (c : SymClass) (r : Recogniser) : Recogniser × Indication :=
  match c with
  | .one => recogBit limit true r
  | .zero => recogBit limit false r
  | .ml => if r.bitPos = 0 then ({ r with state := .ending, delimPos := 1 }, .nothing) else (.hunting, .outcome .broken)
  | .mh => (.hunting, .outcome .broken)
  | .quiet => (.hunting, .outcome .broken)
  | .junk => (.hunting, .outcome .broken)

/-- The judgement of a frame at its complete end delimiter (table of R11). -/
def judgeFrame (r : Recogniser) : FrameOutcome :=
  if r.byteCount < 3 then .broken
  else
    match r.held with
    | [hi, lo] => if checkValue hi lo = r.runningCheck then .good else .badCheck
    | _ => .badCheck

/-- END (R11). -/
def recogEnding (c : SymClass) (r : Recogniser) : Recogniser × Indication :=
  if endDelimiter[r.delimPos]? = some c then
    if r.delimPos + 1 = 8 then (.hunting, .outcome (judgeFrame r))
    else ({ r with delimPos := r.delimPos + 1 }, .nothing)
  else (.hunting, .outcome .broken)

/-- The recogniser takes one delivered class (R8 to R11). -/
def recogStep (limit : Nat) (c : SymClass) (r : Recogniser) : Recogniser × Indication :=
  match r.state with
  | .hunt => (recogHunt c, .nothing)
  | .preamble => (recogPreamble c r, .nothing)
  | .start => recogStart c r
  | .body => recogBody limit c r
  | .ending => recogEnding c r

/-- A counter that stops at 4,294,967,295 (R15). -/
def countUp (n : Word32) : Word32 := if n = 0xFFFFFFFF then n else n + 1

/-- The JUNK counter (R15). -/
def Counters.junkSymbol (c : SymClass) (k : Counters) : Counters :=
  if c = .junk then { k with junk := countUp k.junk } else k

/-- The outcome counter of an outcome's own name (R15). -/
def Counters.frameOutcome (i : Indication) (k : Counters) : Counters :=
  match i with
  | .nothing => k
  | .startCompletion => k
  | .outcome .good => { k with good := countUp k.good }
  | .outcome .badCheck => { k with badCheck := countUp k.badCheck }
  | .outcome .broken => { k with broken := countUp k.broken }
  | .outcome .overlong => { k with overlong := countUp k.overlong }

/-- The TRAFFIC gate after a symbol (R14). -/
def gateAfter (i : Indication) (gate : Bool) : Bool :=
  match i with
  | .nothing => gate
  | .startCompletion => true
  | .outcome _ => false

/-- The end of a symbol time in the tap (R4, R12, R14, R15): counters, recogniser, gate; a QUIET symbol returns the
timing to FREE, and the next symbol begins (R3, R5). -/
def Tap.deliver (limit : Nat) (c : SymClass) (t : Tap) : Tap × Indication :=
  let (recog, i) := recogStep limit c t.recog
  ({ timing := if c = .quiet then .free else t.timing
     position := 0
     midHalf := false
     first := .fresh
     second := .fresh
     recog := recog
     trafficGate := gateAfter i t.trafficGate
     counters := (t.counters.junkSymbol c).frameOutcome i }, i)

/-- A new symbol time begins here (R3). -/
def Tap.beginSymbol (t : Tap) : Tap :=
  { t with position := 0, midHalf := false, first := .fresh, second := .fresh }

/-- The opening of the switch (R6, R14): the symbol and the frame in progress are abandoned. -/
def Tap.switchOpens (t : Tap) : Tap := { t.beginSymbol with recog := .hunting, trafficGate := false }

/-- The closing of the switch (R3, R6): timing FREE, counted from the moment of closing. -/
def Tap.switchCloses (t : Tap) : Tap := { t.beginSymbol with timing := .free }

/-- The tap at soft reset (R17); `closed` is the switch position that the reset keeps. -/
def Tap.softReset (closed : Bool) (t : Tap) : Tap :=
  let t := { t with recog := .hunting, trafficGate := false, counters := .zero }
  if closed then t.switchCloses else t

/-! ## Transitions (R3) -/

/-- 3 us (R3). -/
def edgeTolerance : Nat := 6

/-- Whether a transition in FREE timing is one that locks it: out of flat, or between high and low (R3; log 25). -/
def locksTiming (source target : Level) : Bool :=
  source ≠ target && (source = .flat || target ≠ .flat)

/-- A transition in LOCKED timing at the present position: it moves the timing to an edge within 3 us, and is a
mid-half transition otherwise (R3). The edge then lies at the transition, so that time since the edge's former place
belongs to the half-cell before it (log 34). -/
def Tap.lockedTransition (t : Tap) : Tap :=
  if t.position ≤ edgeTolerance then { t with position := 0, first := .fresh, second := .fresh }
  else if halfCellTicks - edgeTolerance ≤ t.position ∧ t.position ≤ halfCellTicks + edgeTolerance then
    { t with position := halfCellTicks, first := t.first.join t.second, second := .fresh }
  else if symbolTicks - edgeTolerance ≤ t.position then { t with position := symbolTicks }
  else { t with midHalf := true }

/-- A transition in FREE timing cuts the symbol time short and begins a new symbol, LOCKED (R3). -/
def Tap.lock (t : Tap) : Tap := { t.beginSymbol with timing := .locked }

end Sys2Proof.Machine
end

