-- ==== Sys2Proof/Machine/Classifier.lean ====
section
/-! DEFINITION. The line classifier of one port (chapter 2): runs, criteria, transitions, gate, budget, timers. -/
namespace Sys2Proof.Machine

/-- The symbols that meet the quiet criterion, 600 us (R19). -/
def quietSymbols : Nat := 24

/-- The jabber limit (R20). -/
def jabberLimit (frameLimit : Nat) : Nat := 8 * frameLimit + 64

/-- The noise level, the runs and the drain timer at an entry into DARK (R28). -/
def CondRec.darken (r : CondRec) : CondRec :=
  { r with noiseLevel := 0, drain := none, activeRun := 0, quietRun := 0 }

/-- An entry into a condition (R30): timestamp, dwell from 0, and the QUIET gate closed until a QUIET symbol is taken in
QUIET (R32). -/
def CondRec.enter (now : Word32) (c : Condition) (cause : EntryCause) (r : CondRec) : CondRec :=
  let r := { r with
    condition := c, cause := cause, entryTime := now, dwell := 0, dwellLeft := dwellTicks, quietGate := false }
  if c = .dark then r.darken else r

/-- The two runs after a class (R19). -/
def CondRec.updateRuns (c : SymClass) (r : CondRec) : CondRec :=
  let quietRun := if c = .quiet then addUpTo quietSymbols r.quietRun else 0
  { r with
    quietRun := quietRun
    activeRun := if quietRun = quietSymbols then 0 else addUpTo 65535 r.activeRun }

/-- The noise level after a class, and the drain timer that starts from level 0 (R21, R22). -/
def CondRec.updateNoise (q : Params) (c : SymClass) (r : CondRec) : CondRec :=
  if c = .junk ∧ r.noiseLevel < q.noiseCeiling then
    { r with
      noiseLevel := r.noiseLevel + 1
      drain := if r.noiseLevel = 0 then some (q.drainInterval * ticksPerMs) else r.drain }
  else r

/-- The criteria a class meets (R19, R20, R21). -/
structure Criteria where
  jabber : Bool
  noise : Bool
  quiet : Bool
  deriving DecidableEq, Repr

/-- The criteria for a class, read after the updates of R19 and R21. -/
def CondRec.criteria (q : Params) (c : SymClass) (r : CondRec) : Criteria :=
  { jabber := decide (jabberLimit q.frameLimit < r.activeRun)
    noise := decide (c = .junk ∧ r.noiseLevel = q.noiseCeiling)
    quiet := decide (r.quietRun = quietSymbols) }

/-- The one transition that a class makes (table of 2.3, R24 to R27). -/
def classTransition (ceiling : Nat) (k : Criteria) (r : CondRec) : Option Condition :=
  match r.condition with
  | .unseen => if k.jabber then some .jabber else if k.noise then some .noisy else if k.quiet then some .quiet else none
  | .traffic => if k.jabber then some .jabber else if k.noise then some .noisy else if k.quiet then some .quiet else none
  | .quiet => if k.jabber then some .jabber else if k.noise then some .noisy else none
  | .noisy => if k.jabber then some .jabber else if k.quiet && r.noiseLevel == 0 then some .quiet else none
  | .jabber => if k.quiet then (if r.noiseLevel = ceiling then some .noisy else some .quiet) else none
  | .dark => none

/-- An OBSERVED entry, if there is one, with the condition entered (R30). -/
def CondRec.enterIf (now : Word32) (entered : Option Condition) (r : CondRec) : CondRec :=
  match entered with
  | none => r
  | some c => r.enter now c .observed

/-- The QUIET gate at the end of a delivered symbol (R32). -/
def CondRec.judgeGate (c : SymClass) (r : CondRec) : CondRec :=
  { r with quietGate := decide (r.condition = .quiet ∧ c = .quiet) }

/-- A delivered class (R19 to R27, R32): nothing in DARK (R28). The condition entered, if any, is the occurrence. -/
def CondRec.takeClass (now : Word32) (q : Params) (c : SymClass) (r : CondRec) : CondRec × Option Condition :=
  if r.condition = .dark then (r, none)
  else
    let r := (r.updateRuns c).updateNoise q c
    let entered := classTransition q.noiseCeiling (r.criteria q c) r
    ((r.enterIf now entered).judgeGate c, entered)

/-- Whether a start-delimiter completion enters TRAFFIC (R25, R26). -/
def completionEnters (r : CondRec) : Bool :=
  match r.condition with
  | .unseen => true
  | .quiet => true
  | .noisy => r.noiseLevel == 0
  | .traffic => false
  | .jabber => false
  | .dark => false

/-- A bad frame spends the budget (R33); the flag says whether the budget occurrence is raised. -/
def CondRec.spendBudget (q : Params) (r : CondRec) : CondRec × Bool :=
  if q.errorBudget = 0 ∨ r.budgetLeft = 0 ∨ r.condition = .dark then (r, false)
  else if r.budgetLeft = 1 then
    ({ r with
       budgetLeft := q.errorBudget
       budgetTimer := if q.budgetWindow = 0 then r.budgetTimer else some (q.budgetWindow * ticksPerSecond) }, true)
  else ({ r with budgetLeft := r.budgetLeft - 1 }, false)

/-- What a symbol gives the classifier beyond its class (R12, R25, R26, R33): the record and the occurrences. -/
def CondRec.takeIndication (now : Word32) (q : Params) (i : Indication) (r : CondRec) :
    CondRec × Option Condition × Bool :=
  match i with
  | .nothing => (r, none, false)
  | .startCompletion => if completionEnters r then (r.enter now .traffic .observed, some .traffic, false) else (r, none, false)
  | .outcome .good => (r, none, false)
  | .outcome .badCheck => let (r, b) := r.spendBudget q; (r, none, b)
  | .outcome .broken => let (r, b) := r.spendBudget q; (r, none, b)
  | .outcome .overlong => let (r, b) := r.spendBudget q; (r, none, b)

/-- The budget reloaded and its window started again, or stopped at 0 (R34, R36, R39). -/
def CondRec.reloadBudget (q : Params) (r : CondRec) : CondRec :=
  { r with
    budgetLeft := q.errorBudget
    budgetTimer := if q.budgetWindow = 0 then none else some (q.budgetWindow * ticksPerSecond) }

/-- The sense timer as a port with a closed switch starts it (R23). -/
def senseOnClosing (powerGood : Bool) : Option Nat := if powerGood then none else some 0

/-- The switch opens: forced DARK (R29). -/
def CondRec.switchOpens (now : Word32) (r : CondRec) : CondRec :=
  { r.enter now .dark .switched with sense := none }

/-- The switch closes: UNSEEN, with the sense timer running if power-sense is LOW (R23, R29). -/
def CondRec.switchCloses (now : Word32) (powerGood : Bool) (r : CondRec) : CondRec :=
  { r.enter now .unseen .observed with sense := senseOnClosing powerGood }

/-- The power-sense signal changes on a closed switch (R23). -/
def CondRec.powerSense (good : Bool) (r : CondRec) : CondRec :=
  if r.condition = .dark then
    match r.cause with
    | .switched => r
    | .observed => { r with sense := if good then some 0 else none }
  else { r with sense := if good then none else some 0 }

/-- The sense timer has run 2 ms (R23, R28): power loss, or power return in DARK (OBSERVED). -/
def CondRec.senseExpires (now : Word32) (r : CondRec) : CondRec × Option Condition :=
  if r.condition = .dark then ({ r.enter now .unseen .observed with sense := none }, none)
  else ({ r.enter now .dark .observed with sense := none }, some .dark)

/-- A drain expiry (R22). -/
def CondRec.drainExpires (q : Params) (r : CondRec) : CondRec :=
  { r with
    noiseLevel := r.noiseLevel - 1
    drain := if r.noiseLevel - 1 = 0 then none else some (q.drainInterval * ticksPerMs) }

/-- A step of the dwell below its stop (R31). -/
def CondRec.stepDwell (r : CondRec) : CondRec := { r with dwell := r.dwell + 1, dwellLeft := dwellTicks }

/-- The noise ceiling written by PORT_SET (R36): the level is clamped, and the noise criterion holds at a non-zero level
at or above the new ceiling, in the condition the port is in (R25). -/
def CondRec.newCeiling (now : Word32) (ceiling : Nat) (r : CondRec) : CondRec × Option Condition :=
  let met := decide (r.noiseLevel ≠ 0 ∧ ceiling ≤ r.noiseLevel)
  let r := { r with noiseLevel := min r.noiseLevel ceiling }
  let enters : Bool :=
    match r.condition with
    | .unseen => met
    | .quiet => met
    | .traffic => met
    | .noisy => false
    | .jabber => false
    | .dark => false
  if enters then (r.enter now .noisy .observed, some .noisy) else (r, none)

/-- The condition record at soft reset (R39); `closed` is the switch position that the reset keeps. -/
def CondRec.softReset (now : Word32) (closed powerGood : Bool) (q : Params) (r : CondRec) : CondRec :=
  let r := if closed then r.enter now .unseen .observed else r.enter now .dark .switched
  { (r.darken).reloadBudget q with sense := if closed then senseOnClosing powerGood else none }

end Sys2Proof.Machine
end

