-- ==== Sys2Proof/Machine/Flags.lean ====
section
/-! DEFINITION. The summary unit (chapter 8): occurrences, the latching of flags, event records, their return and merge,
and the clear. -/
namespace Sys2Proof.Machine

/-- Everything a block reports onward: flagged occurrences (R145), monitor releases and dwell offers (R129). -/
inductive Occurrence where
  | condition (p : PortId) (c : Condition)
  | budget (p : PortId)
  | dwell (p : PortId) (c : Condition) (dwell : Nat)
  | monTrip (m : Fin 12) (p : PortId)
  | monRelease (m : Fin 12) (p : PortId)
  | trip (p : PortId)
  | giveup (p : PortId)
  | reacted (p : PortId)
  | note (source : SourceId) (entry : EntryId)
  | refused
  | discard
  | linkLost
  deriving DecidableEq, Repr

/-- The source of a port. -/
def portSource (p : PortId) : SourceId := p.castSucc

/-- The source DEVICE. -/
def deviceSource : SourceId := 8

/-- The NOTE flag of a source (10.2). -/
def noteFlag (source : SourceId) : FlagId := if source = deviceSource then 3 else 10

/-- How many flags a source has (8.1). -/
def flagCount (source : SourceId) : Nat := if source = deviceSource then 4 else 11

/-- The flag of a condition (R145, 10.2): entry into UNSEEN raises none. -/
def conditionFlag : Condition → Option FlagId
  | .unseen => none
  | .dark => some 0
  | .quiet => some 1
  | .traffic => some 2
  | .noisy => some 3
  | .jabber => some 4

/-- The source and flag an occurrence latches (table of R145). Monitor releases and dwell offers latch none. -/
def Occurrence.flag : Occurrence → Option (SourceId × FlagId)
  | .condition p c => (conditionFlag c).map fun f => (portSource p, f)
  | .budget p => some (portSource p, 5)
  | .dwell _ _ _ => none
  | .monTrip _ p => some (portSource p, 6)
  | .monRelease _ _ => none
  | .trip p => some (portSource p, 7)
  | .giveup p => some (portSource p, 8)
  | .reacted p => some (portSource p, 9)
  | .note source _ => some (source, noteFlag source)
  | .refused => some (deviceSource, 1)
  | .discard => some (deviceSource, 0)
  | .linkLost => some (deviceSource, 2)

/-- The entry index that a NOTE carries (R131). -/
def Occurrence.noteEntry : Occurrence → Option Nat
  | .note _ entry => some entry.val
  | _ => none

/-- An index joins an ascending list without repeats (R152). -/
def insertNote (n : Nat) : List Nat → List Nat
  | [] => [n]
  | m :: rest => if n < m then n :: m :: rest else if n = m then m :: rest else m :: insertNote n rest

/-- The notes list with the entry of a NOTE occurrence. -/
def addNote (note : Option Nat) (notes : List Nat) : List Nat :=
  match note with
  | none => notes
  | some n => insertNote n notes

/-- The set that holds one flag. -/
def flagBit (flag : FlagId) : Word16 := 1 <<< flag.val

/-- The oldest WAITING record of `source` takes the occurrence; `none` where there is no such record (R152). -/
def joinWaiting (source : SourceId) (flag : FlagId) (note : Option Nat) (stamp : Word32) :
    List EventRec → Option (List EventRec)
  | [] => none
  | e :: rest =>
    if e.source = source ∧ e.send = .waiting then
      some ({ e with flags := e.flags ||| flagBit flag, newest := stamp, notes := addNote note e.notes } :: rest)
    else (joinWaiting source flag note stamp rest).map (e :: ·)

/-- An admitted occurrence goes into the event records of its source (R152). -/
def recordEvent (now : Word32) (source : SourceId) (flag : FlagId) (note : Option Nat) (u : Summary) : Summary :=
  match joinWaiting source flag note u.stamp u.events with
  | some events => { u with events := events }
  | none =>
    { u with
      events := u.events ++
        [{ source := source, flags := flagBit flag, newest := u.stamp, notes := addNote note [], created := now
           send := .waiting }] }

/-- The rebase of the summary at the end of the stamp's range (R147). -/
def Summary.rebase (u : Summary) : Summary :=
  if u.stamp = 0xFFFFFFFF then { u with stamp := 0, flags := vmap (vmap (Option.map fun _ => 0)) u.flags } else u

/-- The flag of a source becomes SET with the stamp. -/
def Summary.setFlag (u : Summary) (source : SourceId) (flag : FlagId) (stamp : Word32) : Summary :=
  { u with flags := u.flags.set source (u.flags[source].set flag (some stamp)) }

/-- Step 3 of R146: a NOTE, or a flag that the notify mask names, is admitted. -/
def Summary.admits (u : Summary) (source : SourceId) (flag : FlagId) : Bool :=
  flag = noteFlag source || u.masks[source].getLsbD flag.val

/-- One flagged occurrence, taken whole (R146, R147). -/
def Summary.take (now : Word32) (source : SourceId) (flag : FlagId) (note : Option Nat) (u : Summary) : Summary :=
  let u := u.rebase
  let u := { u with stamp := u.stamp + 1 }
  let u := u.setFlag source flag u.stamp
  if u.admits source flag then recordEvent now source flag note u else u

/-- The summary unit takes an occurrence (R145, R146); one that latches no flag passes it by. -/
def State.latch (s : State) (o : Occurrence) : State :=
  match o.flag with
  | none => s
  | some (source, flag) => { s with summary := s.summary.take s.timebase source flag o.noteEntry }

/-- Several occurrences latched in order. -/
def State.latchAll (s : State) (os : List Occurrence) : State := os.foldl State.latch s

/-! ## Return of SENT records and the merge (R154) -/

/-- A later record of the same source joins an older one: union of flags and notes, the later stamp (R154). -/
def EventRec.absorb (older newer : EventRec) : EventRec :=
  { older with
    flags := older.flags ||| newer.flags
    newest := newer.newest
    notes := newer.notes.foldl (fun ns n => insertNote n ns) older.notes }

/-- The merged records with one more record taken from behind (R154). -/
def mergeInto : List EventRec → EventRec → List EventRec
  | [], e => [e]
  | older :: rest, e => if older.source = e.source then older.absorb e :: rest else older :: mergeInto rest e

/-- Every SENT event record returns to WAITING, and the records of each source merge into its oldest (R154). -/
def returnEvents (events : List EventRec) : List EventRec :=
  (events.map fun e => { e with send := .waiting }).foldl mergeInto []

/-! ## Reading and clearing -/

/-- The set of a source's flags that are SET (R148). -/
def Summary.flagSet (u : Summary) (source : SourceId) : Nat :=
  maskOf (flagCount source) fun i => if h : i < 11 then (u.flags[source][i]).isSome else false

/-- A named flag after a clear with stamp `S` (R149). -/
def clearFlag (stampS : Word32) (named : Bool) (flag : Option Word32) : Option Word32 :=
  match flag with
  | none => none
  | some t => if named && decide (t ≤ stampS) then none else some t

/-- The flags of one source after the clear of the set `named` (R149). -/
def clearFlags (stampS : Word32) (named : Nat) (flags : Vector (Option Word32) 11) : Vector (Option Word32) 11 :=
  (indexes 11).foldl (fun v (i : Fin 11) => v.set i (clearFlag stampS (named.testBit i.val) v[i])) flags

end Sys2Proof.Machine
end

