-- ==== Sys2Proof/Machine/Results.lean ====
section
/-! DEFINITION. The result unit (chapter 5): monitors, ALERT, the result queue, reservations and discards. -/
namespace Sys2Proof.Machine

/-- The result queue's places (R89). -/
def resultPlaces : Nat := 16

/-- Records plus reservations. -/
def Results.used (u : Results) : Nat := u.queue.length + u.reservations

/-- A reservation is free (R79, R89). -/
def Results.hasFree (u : Results) : Bool := decide (u.used < resultPlaces)

/-- ALERT: some alert-enabled monitor has a guarded port OUTSIDE (R103). -/
def alertLevel (monitors : Vector Monitor 12) : Bool :=
  monitors.toList.any fun m =>
    m.alertEnable && (indexes 8).any fun (p : PortId) => m.guarded.getLsbD p.val && m.ports[p].outside

/-- ALERT reassessed (R103). -/
def Results.updateAlert (u : Results) : Results := { u with alert := alertLevel u.monitors }

/-- Whether applies-to admits a result of this origin (R97). -/
def AppliesTo.admits (a : AppliesTo) (o : Origin) : Bool :=
  match o, a with
  | .probe _, _ => false
  | .spot _, .survey => false
  | .spot _, .spot => true
  | .spot _, .both => true
  | .survey _ _, .survey => true
  | .survey _ _, .spot => false
  | .survey _ _, .both => true

/-- Whether a monitor tests an OK result (R97). -/
def Monitor.tests (m : Monitor) (o : Origin) (p : PortId) (q : Quantity) : Bool :=
  decide (m.quantity = q) && m.guarded.getLsbD p.val && m.appliesTo.admits o

/-- A value outside the window (R97): a value equal to a limit is inside. -/
def Monitor.isOutside (m : Monitor) (value : Nat) : Bool := decide (value < m.low ∨ m.high < value)

/-- What a tested value does to a port's state (R98, R99): the new state, and the change of state if there is one
(yes: OUTSIDE). -/
def testValue (outsideNow : Bool) (releaseCount : Nat) (t : MonitorPort) : MonitorPort × Option Bool :=
  match t.outside, outsideNow with
  | false, false => (t, none)
  | false, true => ({ outside := true, insideCount := 0 }, some true)
  | true, true => ({ outside := true, insideCount := 0 }, none)
  | true, false =>
    if t.insideCount + 1 = releaseCount then ({ outside := false, insideCount := 0 }, some false)
    else ({ outside := true, insideCount := t.insideCount + 1 }, none)

/-- Step 2 of R86 for one monitor: its new state and its verdict. -/
def Monitor.evaluate (m : Monitor) (o : Origin) (p : PortId) (q : Quantity) (value : Nat) : Monitor × Option Bool :=
  if m.tests o p q then
    let (t, change) := testValue (m.isOutside value) m.releaseCount m.ports[p]
    ({ m with ports := m.ports.set p t }, change)
  else (m, none)

/-- Step 2 of R86: the monitors in ascending index, with the verdicts in that order. -/
def evaluateMonitors (o : Origin) (p : PortId) (q : Quantity) (value : Nat) (monitors : Vector Monitor 12) :
    Vector Monitor 12 × List Verdict :=
  (indexes 12).foldl
    (fun (ms, vs) (i : Fin 12) =>
      match ms[i].evaluate o p q value with
      | (m, none) => (ms.set i m, vs)
      | (m, some outside) => (ms.set i m, vs ++ [{ monitor := i, outside := outside }]))
    (monitors, [])

/-- The occurrence of a verdict (R98, R99). -/
def Verdict.occurrence (p : PortId) (v : Verdict) : Occurrence :=
  if v.outside then .monTrip v.monitor p else .monRelease v.monitor p

/-- A finished spot or survey job as the engine hands it over (R52): the job's record, how it ended, and its value when
OK. -/
structure Completion where
  job : Job
  status : JobStatus
  value : Option Nat
  deriving DecidableEq, Repr

/-- The record of a completion (R87, R88). -/
def Completion.record (c : Completion) (id : Word16) (now : Word32) (lost : Option Nat) (verdicts : List Verdict) :
    ResultRec :=
  { id := id, origin := c.job.origin, port := c.job.port, quantity := c.job.quantity, status := c.status
    samples := c.job.samplesDone, value := c.value, time := now, lost := lost, verdicts := verdicts, send := .waiting }

/-- A WAITING record of origin kind SURVEY (R92). -/
def ResultRec.discardable (r : ResultRec) : Bool :=
  match r.send, r.origin with
  | .waiting, .survey _ _ => true
  | .waiting, .spot _ => false
  | .waiting, .probe _ => false
  | .sent _, _ => false

/-- The queue without its oldest WAITING survey record (R92). -/
def dropOldestSurvey : List ResultRec → Option (List ResultRec)
  | [] => none
  | r :: rest => if r.discardable then some rest else (dropOldestSurvey rest).map (r :: ·)

/-- The placing of an unreserved REPORTED survey record (R92): the queue, the lost count and whether a record was
discarded. `make` forms the record with its lost field. -/
def placeUnreserved (make : Option Nat → ResultRec) (u : Results) (lost : Nat) : Results × Nat × Bool :=
  if u.hasFree then ({ u with queue := u.queue ++ [make (some lost)] }, 0, false)
  else
    match dropOldestSurvey u.queue with
    | some queue => ({ u with queue := queue ++ [make (some (addUpTo 255 lost))] }, 0, true)
    | none => (u, addUpTo 255 lost, true)

/-- Step 3 of R86: a reservation becomes a record (R90), an unreserved REPORTED result is placed (R92), a SILENT one is
dropped (R93). -/
def disposeResult (c : Completion) (id : Word16) (now : Word32) (verdicts : List Verdict) (u : Results) (lost : Nat) :
    Results × Nat × Bool :=
  if c.job.reserved then
    ({ u with
       reservations := u.reservations - 1
       queue := u.queue ++ [c.record id now none verdicts] }, lost, false)
  else
    match c.job.report with
    | .reported => placeUnreserved (fun l => c.record id now l verdicts) u lost
    | .silent => (u, lost, false)
    | .none => (u, lost, false)

/-- Step 1 of R86: a REPORTED completion takes the next result id (R87). -/
def Results.takeId (report : ReportMode) (u : Results) : Results :=
  if report = .reported then { u with nextId := u.nextId + 1 } else u

/-- Step 2 of R86: an OK result is tested by the monitors and ALERT follows. -/
def Results.test (c : Completion) (u : Results) : Results × List Verdict :=
  match c.value with
  | none => (u, [])
  | some value =>
    let (monitors, verdicts) := evaluateMonitors c.job.origin c.job.port c.job.quantity value u.monitors
    ({ u with monitors := monitors }.updateAlert, verdicts)

/-- The result unit handles a completion (R86): the state after steps 1 to 3, and the occurrences of step 4 in their
order. -/
def State.handleResult (s : State) (c : Completion) : State × List Occurrence :=
  let id := s.results.nextId
  let (u, verdicts) := (s.results.takeId c.job.report).test c
  let (u, lost, discarded) := disposeResult c id s.timebase verdicts u s.survey.lost
  ({ s with results := u, survey := { s.survey with lost := lost } },
    verdicts.map (Verdict.occurrence c.job.port) ++ if discarded then [.discard] else [])

/-- All ports of a monitor INSIDE with count 0 (R101, R104). -/
def Monitor.allInside (m : Monitor) : Monitor := { m with ports := Vector.replicate 8 .inside }

/-- The result unit at soft reset (R95, R104). -/
def Results.softReset (u : Results) : Results :=
  { queue := [], reservations := 0, nextId := 0, monitors := vmap Monitor.allInside u.monitors, alert := false }

end Sys2Proof.Machine
end

