-- ==== Sys2Proof/Machine/Engine.lean ====
section
/-! DEFINITION. The measurement engine and the survey sequencer (chapters 3 and 4): job starts, gates, untested
completions, passes and offers, arbitration, preemption and parking. Completions with status OK, which can raise
triggers, are handed over in Completion.lean. -/
namespace Sys2Proof.Machine

/-! ## Quantities (3.1) -/

/-- Settle time after a move of the multiplexer (table of 3.1, R41). -/
def settleTicks : Quantity → Nat
  | .vseg => 50 * ticksPerUs
  | .iseg => 50 * ticksPerUs
  | .sigamp => 0
  | .noise => 50 * ticksPerUs
  | .screen => 2 * ticksPerMs

/-- One timed sample, 20 us (R46). -/
def sampleTicks : Nat := 20 * ticksPerUs

/-- SIGAMP and NOISE wait on a gate (R41). -/
def Quantity.gated : Quantity → Bool
  | .vseg => false
  | .iseg => false
  | .sigamp => true
  | .noise => true
  | .screen => false

/-- The gate of a quantity on a port (R14, R32). -/
def Port.gateOpen (p : Port) : Quantity → Bool
  | .vseg => true
  | .iseg => true
  | .sigamp => p.tap.trafficGate
  | .noise => p.cond.quietGate
  | .screen => true

/-- N = 2^e samples (3.2). -/
def Job.target (j : Job) : Nat := 2 ^ j.e

/-- The value of a sum (R51): rounded half up for shifts above 0. -/
def jobValue (shift sum : Nat) : Nat :=
  if shift = 0 then sum else (sum + 2 ^ (shift - 1)) / 2 ^ shift

/-- A job of the survey. -/
def Job.isSurvey (j : Job) : Bool :=
  match j.origin with
  | .probe _ => false
  | .spot _ => false
  | .survey _ _ => true

/-! ## Updates of the engine -/

/-- The active place. -/
def State.setActive (s : State) (j : Option Job) : State := { s with engine := { s.engine with active := j } }

/-- The parked place. -/
def State.setParked (s : State) (j : Option Job) : State := { s with engine := { s.engine with parked := j } }

/-- The probe slot of a port. -/
def State.setSlot (s : State) (p : PortId) (slot : ProbeSlot) : State :=
  s.modPort p fun r => { r with switch := { r.switch with slot := slot } }

/-! ## Completions that no monitor tests (R52, R53, R97) -/

/-- A probe completion that is not OK (R115): a port that is no longer PROBING is not touched, and a slot is emptied at
every completion (R111). -/
def State.discardProbe (s : State) (p : PortId) : State :=
  if (s.port p).switch.state = .probing then s.setSlot p .empty else s

/-- The hand-over of a job that ended GATE_TIMEOUT or PORT_OFF (R52). Its only possible occurrence is DISCARD, which is
a flag and no trigger (R92, R129). -/
def State.deliverUntested (s : State) (j : Job) (status : JobStatus) : State :=
  match j.origin with
  | .probe p => s.discardProbe p
  | .spot _ => let (s, os) := s.handleResult { job := j, status := status, value := none }; s.latchAll os
  | .survey _ _ => let (s, os) := s.handleResult { job := j, status := status, value := none }; s.latchAll os

/-- The active job ends without a value. -/
def State.endActive (s : State) (status : JobStatus) : State :=
  match s.engine.active with
  | none => s
  | some j => (s.setActive none).deliverUntested j status

/-- The parked job ends without a value; the active job is not disturbed (R52, R53). -/
def State.endParked (s : State) (status : JobStatus) : State :=
  match s.engine.parked with
  | none => s
  | some j => (s.setParked none).deliverUntested j status

/-! ## The phases of the active job -/

/-- A sample due that finds the gate closed (R47): GATED, or GATE_TIMEOUT at once where the gate wait used already
stands at the timeout (R57). -/
def State.enterGated (s : State) (j : Job) : State :=
  if j.gateTimeout * ticksPerMs ≤ j.gateWait then (s.setActive (some j)).endActive .gateTimeout
  else s.setActive (some { j with phase := .gated, sample := .idle })

/-- The end of the settle interval (R45, R46, R47). -/
def State.settled (s : State) (j : Job) : State :=
  if j.quantity.gated then
    if (s.port j.port).gateOpen j.quantity then s.setActive (some { j with phase := .sampling, sample := .idle })
    else s.enterGated j
  else s.setActive (some { j with phase := .sampling, sample := .timed sampleTicks })

/-- The multiplexer moves to the job's port and quantity and the job settles (R40, R41, R45); SIGAMP settles for no
time. -/
def State.enterSettling (s : State) (j : Job) : State :=
  let j := { j with phase := .settling, settleLeft := settleTicks j.quantity, sample := .idle }
  let s := { s with engine := { s.engine with mux := some (j.port, j.quantity), active := some j } }
  if settleTicks j.quantity = 0 then s.settled j else s

/-- A start of a symbol time on port `p` (R47): a sample that is due begins if the gate is open, and the job is GATED
otherwise. -/
def State.symbolStart (s : State) (p : PortId) : State :=
  match s.engine.active with
  | none => s
  | some j =>
    if j.port = p ∧ j.quantity.gated = true ∧ j.phase ≠ .settling ∧ j.sample = .idle then
      if (s.port p).gateOpen j.quantity then
        s.setActive (some { j with phase := .sampling, sample := .symbol true })
      else if j.phase = .gated then s
      else s.enterGated j
    else s

/-- A closing of the QUIET gate that no symbol brings spoils the NOISE sample in flight (R48). -/
def State.quietGateClosed (s : State) (p : PortId) : State :=
  match s.engine.active with
  | none => s
  | some j =>
    if j.port = p ∧ j.quantity = .noise ∧ j.sample = .symbol true ∧ (s.port p).cond.quietGate = false then
      s.setActive (some { j with sample := .symbol false })
    else s

/-! ## Passes and offers (4.3) -/

/-- The enabled entry in the lowest slot at or after the cursor (R73). -/
def Survey.nextEntry (v : Survey) : Option (SlotId × SurveyEntry) :=
  (indexes 48).findSome? fun (i : SlotId) =>
    if v.cursor ≤ i.val then
      match v.slots[i] with
      | none => none
      | some e => if e.enabled then some (i, e) else none
    else none

/-- A survey job is in the engine, active or parked (R73). -/
def Engine.hasSurvey (g : Engine) : Bool := g.active.any Job.isSurvey || g.parked.any Job.isSurvey

/-- The sequencer waits at a REPORTED entry under STALL for a reservation (R79). -/
def Survey.needsFree (v : Survey) (e : SurveyEntry) : Bool := e.reported && decide (v.pacing = .stall)

/-- The entry that a pass has reached and no survey job stands before (R73), offered or waited at. -/
def State.reachedEntry (s : State) : Option (SlotId × SurveyEntry) :=
  if s.survey.state = .running ∧ s.survey.inPass = true ∧ s.engine.hasSurvey = false then s.survey.nextEntry else none

/-- The entry on offer (R73, R79). -/
def State.offer (s : State) : Option (SlotId × SurveyEntry) :=
  match s.reachedEntry with
  | none => none
  | some (i, e) => if s.survey.needsFree e && !s.results.hasFree then none else some (i, e)

/-- The slot of the STALL entry that is waited at (R79, R85). -/
def State.stallSlot (s : State) : Option SlotId :=
  match s.reachedEntry with
  | none => none
  | some (i, e) => if s.survey.needsFree e && !s.results.hasFree then some i else none

/-- A pass starts (R75). -/
def Survey.startPass (now : Word32) (v : Survey) : Survey :=
  { v with
    passNumber := v.passNumber + 1, cursor := 0, inPass := true, passStart := now, floorLeft := ticksPerMs }

/-- The survey stops (R71, R76): the pass number and the lost count keep their values. -/
def Survey.stop (v : Survey) : Survey :=
  { v with state := .stopped, inPass := false, cursor := 0, pace := none, tickPending := false }

/-- The conditions of a pass end (R75). -/
def State.passEndDue (s : State) : Bool :=
  decide (s.survey.state = .running) && s.survey.inPass && s.survey.nextEntry.isNone && !s.engine.hasSurvey

/-- A pass ends, and the mode decides what follows (R75 to R77). -/
def Survey.endPass (now : Word32) (v : Survey) : Survey :=
  let v := { v with inPass := false }
  match v.mode with
  | .single => v.stop
  | .continuous => if v.floorLeft = 0 then v.startPass now else v
  | .timed => if v.tickPending then { v with tickPending := false }.startPass now else v

/-- The pass end, where its conditions hold. -/
def State.progressPass (s : State) : State :=
  if s.passEndDue then { s with survey := s.survey.endPass s.timebase } else s

/-! ## Arbitration (3.4) -/

/-- What R54 can choose. -/
inductive Choice where
  | probe (p : PortId)
  | spot (r : SpotRequest) (rest : List SpotRequest)
  | resume (j : Job)
  | survey (slot : SlotId) (e : SurveyEntry)
  deriving DecidableEq, Repr

/-- The lowest-numbered waiting probe slot. -/
def State.waitingProbe (s : State) : Option PortId :=
  (indexes 8).find? fun (p : PortId) => decide ((s.port p).switch.slot = .waiting)

/-- A startable spot head (R56, R83). -/
def State.startableSpot (s : State) : Option (SpotRequest × List SpotRequest) :=
  match s.spots with
  | [] => none
  | r :: rest => if s.results.hasFree then some (r, rest) else none

/-- The choice of R54, if a source is ready. -/
def State.nextChoice (s : State) : Option Choice :=
  match s.waitingProbe with
  | some p => some (.probe p)
  | none =>
    match s.startableSpot with
    | some (r, rest) => some (.spot r rest)
    | none =>
      match s.engine.parked with
      | some j => some (.resume j)
      | none =>
        match s.offer with
        | some (i, e) => some (.survey i e)
        | none => none

/-- A fresh job record (R42). -/
def freshJob (origin : Origin) (port : PortId) (quantity : Quantity) (e shift gateTimeout : Nat) (report : ReportMode)
    (reserved : Bool) : Job :=
  { origin := origin, port := port, quantity := quantity, e := e, shift := shift, gateTimeout := gateTimeout
    report := report, reserved := reserved, sum := 0, samplesDone := 0, gateWait := 0, phase := .settling
    settleLeft := 0, sample := .idle }

/-- The job of a probe (table of R42, R112). -/
def probeJob (p : PortId) : Job := freshJob (.probe p) p .iseg 4 4 1 .none false

/-- The job of a spot request (table of R42). -/
def spotJob (r : SpotRequest) : Job :=
  freshJob (.spot r.tag) r.port r.quantity r.e r.shift r.gateTimeout .reported true

/-- The job of a survey entry (table of R42). -/
def surveyJob (v : Survey) (i : SlotId) (e : SurveyEntry) : Job :=
  freshJob (.survey i v.passNumber) e.port e.quantity e.e e.shift e.gateTimeout
    (if e.reported then .reported else .silent) (v.needsFree e)

/-- Steps 3 and 4 of R44: PORT_OFF at once on an open switch, else the job settles. -/
def State.startJob (s : State) (j : Job) : State :=
  if s.closed j.port then s.enterSettling j else s.deliverUntested j .portOff

/-- The result unit grants a reservation (R90). -/
def State.reserve (s : State) (held : Bool) : State :=
  if held then { s with results := { s.results with reservations := s.results.reservations + 1 } } else s

/-- The engine takes a choice (R44, R60, R74). -/
def State.takeChoice (s : State) (c : Choice) : State :=
  match c with
  | .probe p => (s.setSlot p .inEngine).startJob (probeJob p)
  | .spot r rest => ({ s with spots := rest }.reserve true).startJob (spotJob r)
  | .resume j => (s.setParked none).enterSettling j
  | .survey i e =>
    let j := surveyJob s.survey i e
    ({ s with survey := { s.survey with cursor := i.val + 1 } }.reserve j.reserved).startJob j

/-- Choices in a row while jobs end at their start (R54, R74), at most `fuel` of them. -/
def State.chooseLoop : Nat → State → State
  | 0, s => s
  | fuel + 1, s =>
    if s.engine.active.isSome then s
    else
      let s := s.progressPass
      match s.nextChoice with
      | none => s
      | some c => (s.takeChoice c).chooseLoop fuel

/-- More choices than one step can make (log 24): 8 probes, 8 spots, the parked job, and the entries of the pass in
progress and of one more pass. -/
def chooseFuel : Nat := 256

/-- A probe or a startable spot is ready (R57). -/
def State.preemptorReady (s : State) : Bool := s.waitingProbe.isSome || s.startableSpot.isSome

/-- What parking keeps (R58). -/
def Job.park (policy : PreemptPolicy) (j : Job) : Job :=
  match policy with
  | .keep => { j with phase := .settling, settleLeft := 0, sample := .idle }
  | .restart =>
    { j with phase := .settling, settleLeft := 0, sample := .idle, sum := 0, samplesDone := 0, gateWait := 0 }

/-- The active survey job is set aside (R58). -/
def State.parkActive (s : State) (j : Job) : State :=
  { s with engine := { s.engine with active := none, parked := some (j.park s.survey.policy) } }

/-- The engine looks at its sources (R55, R57, R59): a free converter starts a job, a survey job yields to a ready probe
or spot, and a probe or spot job keeps the converter. A pass whose last job has left the engine ends first (R75). While
a completion is handed over both wait (R52; log 8, log 9). -/
def State.wakeEngine (s : State) : State :=
  if s.engine.handingOver then s
  else
    let s := s.progressPass
    match s.engine.active with
    | none => s.chooseLoop chooseFuel
    | some j => if j.isSurvey && s.preemptorReady then (s.parkActive j).chooseLoop chooseFuel else s

/-- The active job, if it is on port `p`, ends PORT_OFF (R53). -/
def State.endActiveOn (s : State) (p : PortId) : State :=
  if s.engine.active.any (fun j => decide (j.port = p)) then s.endActive .portOff else s

/-- The parked job, if it is on port `p`, ends PORT_OFF (R53). -/
def State.endParkedOn (s : State) (p : PortId) : State :=
  if s.engine.parked.any (fun j => decide (j.port = p)) then s.endParked .portOff else s

/-- The engine is told that the switch of `p` opened (R53): the active job first, then the parked job, and then the
choice. -/
def State.engineOpening (s : State) (p : PortId) : State := ((s.endActiveOn p).endParkedOn p).wakeEngine

/-! ## Survey moves shared by requests and reactions (R69 to R72) -/

/-- A RUNNING survey is HELD (R69). -/
def State.holdSurvey (s : State) : State := { s with survey := { s.survey with state := .held } }

/-- The pass that a resumption starts where none is in progress and the mode allows one (step 3 of R70). -/
def Survey.resumePass (now : Word32) (v : Survey) : Survey :=
  match v.mode with
  | .single => v
  | .continuous => if v.floorLeft = 0 then v.startPass now else v
  | .timed => if v.tickPending then { v with tickPending := false }.startPass now else v

/-- Steps 2 and 3 of R70 for a survey that is RUNNING again. -/
def State.resumeWork (s : State) : State :=
  if s.survey.inPass then s.progressPass else { s with survey := s.survey.resumePass s.timebase }

/-- A HELD survey is resumed (R70). -/
def State.resumeSurvey (s : State) : State :=
  ({ s with survey := { s.survey with state := .running } }.resumeWork).wakeEngine

/-- A reservation released without a record (R91). -/
def State.release (s : State) (held : Bool) : State :=
  if held then { s with results := { s.results with reservations := s.results.reservations - 1 } } else s

/-- An active survey job leaves the engine with no completion (R61). -/
def State.discardActiveSurvey (s : State) : State :=
  match s.engine.active with
  | none => s
  | some j => if j.isSurvey then (s.setActive none).release j.reserved else s

/-- A parked survey job leaves the engine with no completion (R61). -/
def State.discardParkedSurvey (s : State) : State :=
  match s.engine.parked with
  | none => s
  | some j => if j.isSurvey then (s.setParked none).release j.reserved else s

/-- SURVEY_STOP in one step (R61, R71). -/
def State.stopSurvey (s : State) : State :=
  (({ s with survey := s.survey.stop }.discardActiveSurvey).discardParkedSurvey).wakeEngine

/-- A spot request joins the tail (R80), and the engine looks at it (R57, R81, R82). -/
def State.queueSpot (s : State) (r : SpotRequest) : State := { s with spots := s.spots ++ [r] }.wakeEngine

/-- The spot queue's places (R80). -/
def spotPlaces : Nat := 8

end Sys2Proof.Machine
end

