-- ==== Sys2Proof/Machine/Switch.lean ====
section
/-! DEFINITION. The port switch unit (chapter 6): openings, closings, trips, retries, joins and isolations, up to the
occurrences, which the caller hands on once the move has taken full effect (R107, R120). -/
namespace Sys2Proof.Machine

/-- Steps 1 to 3 of R107: the tap stops and the classifier is forced to DARK. -/
def State.forceDark (s : State) (p : PortId) : State :=
  s.modPort p fun r => { r with tap := r.tap.switchOpens, cond := r.cond.switchOpens s.timebase }

/-- Steps 1 to 4 of R107 for a port whose record has just moved to ISOLATED or HOLDOFF. -/
def State.openSwitch (s : State) (p : PortId) : State := (s.forceDark p).engineOpening p

/-- A closing for a port whose record has just moved to PROBING (R107). -/
def State.closeSwitch (s : State) (p : PortId) : State :=
  s.modPort p fun r => { r with tap := r.tap.switchCloses, cond := r.cond.switchCloses s.timebase r.powerGood }

/-- The hold timer's full time, in 10 ms units (R109). -/
def Params.holdTicks (q : Params) : Nat := q.holdTime * 10 * ticksPerMs

/-- The settle timer's full time (R110). -/
def Params.settleTicks (q : Params) : Nat := q.settleTime * ticksPerMs

/-- The record of a port that moves to ISOLATED (R106, R118): both timers stopped, the slot empty. -/
def SwitchRec.isolate (cause : IsolationCause) (w : SwitchRec) : SwitchRec :=
  { w with state := .isolated, cause := cause, hold := none, settle := none, slot := .empty }

/-- The record of a port that moves to HOLDOFF (R109, R114). -/
def SwitchRec.holdOff (q : Params) (w : SwitchRec) : SwitchRec :=
  { w with state := .holdoff, hold := some q.holdTicks, settle := none, slot := .empty }

/-- The record of a port that moves to PROBING (R110, R117). -/
def SwitchRec.probe (q : Params) (w : SwitchRec) : SwitchRec :=
  { w with state := .probing, hold := none, settle := some q.settleTicks, slot := .empty }

/-- The record of port `p` changed by `f`, which may read the parameters. -/
def State.modSwitch (s : State) (p : PortId) (f : Params → SwitchRec → SwitchRec) : State :=
  s.modPort p fun r => { r with switch := f r.params r.switch }

/-- An isolation (R118, R119): an opening from PROBING and JOINED, only the record elsewhere. -/
def State.isolatePort (s : State) (p : PortId) (cause : IsolationCause) : State :=
  let wasClosed := s.closed p
  let s := s.modSwitch p fun _ w => w.isolate cause
  if wasClosed then s.openSwitch p else s

/-- A join (R117, R119): ISOLATED and HOLDOFF move to PROBING with retries 0, PROBING and JOINED are unchanged. -/
def State.joinPort (s : State) (p : PortId) : State :=
  if s.closed p then s
  else (s.modSwitch p fun q w => { w.probe q with retries := 0 }).closeSwitch p

/-- The hold timer has expired (R110): PROBING with the retries kept. -/
def State.holdExpires (s : State) (p : PortId) : State := (s.modSwitch p SwitchRec.probe).closeSwitch p

/-- A trip in JOINED up to its occurrence (R109). -/
def State.tripJoined (s : State) (p : PortId) : State :=
  (s.modSwitch p fun q w => { w.holdOff q with retries := 0 }).openSwitch p

/-- Steps 1 to 4 of the retry step (R114): HOLDOFF, or ISOLATED with cause GIVEUP where the retries reach max
retries. -/
def SwitchRec.retry (q : Params) (w : SwitchRec) : SwitchRec :=
  let w := { w with slot := .empty, settle := none, retries := w.retries + 1 }
  if q.maxRetries ≤ w.retries then w.isolate .giveup else w.holdOff q

/-- Whether the next retry step gives up. -/
def Port.givesUp (r : Port) : Bool := decide (r.params.maxRetries ≤ r.switch.retries + 1)

/-- The retry step with its opening (R107, R114). -/
def State.retryStep (s : State) (p : PortId) : State := (s.modSwitch p SwitchRec.retry).openSwitch p

end Sys2Proof.Machine
end

