-- ==== Sys2Proof/Machine/Reaction.lean ====
section
/-! DEFINITION. The reaction unit (chapter 7): matching, targets, actions, firings, and the taking of occurrences by the
summary unit and then the reaction unit (R135). No action raises a trigger in its own step (R142), so an action latches
its flags and nothing fires again. -/
namespace Sys2Proof.Machine

/-- Codes of quantities (10.2). -/
def quantityCode : Quantity → Nat
  | .vseg => 0
  | .iseg => 1
  | .sigamp => 2
  | .noise => 3
  | .screen => 4

/-- The quantity of a code that has been checked (R178). -/
def quantityOf (code : Nat) : Quantity :=
  match code with
  | 0 => .vseg
  | 1 => .iseg
  | 2 => .sigamp
  | 3 => .noise
  | _ => .screen

/-- Codes of conditions (10.2). -/
def conditionCode : Condition → Nat
  | .unseen => 0
  | .dark => 1
  | .quiet => 2
  | .traffic => 3
  | .noisy => 4
  | .jabber => 5

/-- The code of a trigger port or target as the port it names, if it names one (10.2). -/
def portOf (code : Byte) : Option PortId := if h : code.toNat < 8 then some ⟨code.toNat, h⟩ else none

/-- ANY as a trigger port (10.2). -/
def anyPort : Byte := 0xFF

/-- SAME as a target (10.2). -/
def sameTarget : Byte := 0xFE

/-- DEVICE as a target (10.2). -/
def deviceTarget : Byte := 0xFD

/-- The port of a trigger (R129): LINKLOST has none. -/
def Occurrence.triggerPort : Occurrence → Option PortId
  | .condition p _ => some p
  | .budget p => some p
  | .dwell p _ _ => some p
  | .monTrip _ p => some p
  | .monRelease _ p => some p
  | .trip p => some p
  | .giveup p => some p
  | .reacted _ => none
  | .note _ _ => none
  | .refused => none
  | .discard => none
  | .linkLost => none

/-- The trigger port of an entry admits a port (R129). -/
def ReactionConfig.admitsPort (c : ReactionConfig) (p : PortId) : Bool :=
  decide (c.port = anyPort) || decide (c.port.toNat = p.val)

/-- An entry's configuration matches a trigger (table of R129, R130). REACTED, NOTE, REFUSED and DISCARD are no
triggers. -/
def ReactionConfig.matchesTrigger (c : ReactionConfig) : Occurrence → Bool
  | .condition p k => decide (c.kind = .condition) && decide (c.condition.toNat = conditionCode k) && c.admitsPort p
  | .dwell p k d =>
    decide (c.kind = .dwell) && decide (c.condition.toNat = conditionCode k) && decide (c.threshold.toNat = d) &&
      c.admitsPort p
  | .monTrip m p => decide (c.kind = .monTrip) && decide (c.monitor.toNat = m.val) && c.admitsPort p
  | .monRelease m p => decide (c.kind = .monRelease) && decide (c.monitor.toNat = m.val) && c.admitsPort p
  | .budget p => decide (c.kind = .budget) && c.admitsPort p
  | .trip p => decide (c.kind = .trip) && c.admitsPort p
  | .giveup p => decide (c.kind = .giveup) && c.admitsPort p
  | .linkLost => decide (c.kind = .linkLost)
  | .reacted _ => false
  | .note _ _ => false
  | .refused => false
  | .discard => false

/-- The target of a firing (R131): SAME is the trigger's port, DEVICE the summary source DEVICE. -/
def ReactionConfig.resolve (c : ReactionConfig) (trigger : Option PortId) : Option SourceId :=
  if c.target = sameTarget then trigger.map portSource
  else if c.target = deviceTarget then some deviceSource
  else (portOf c.target).map portSource

/-- A source that is a port. -/
def sourcePort (source : SourceId) : Option PortId := if h : source.val < 8 then some ⟨source.val, h⟩ else none

/-- The spot request of an entry (R82). -/
def ReactionConfig.spotRequest (c : ReactionConfig) (i : EntryId) (p : PortId) : SpotRequest :=
  { tag := BitVec.ofNat 8 (128 + i.val), port := p, quantity := quantityOf c.spotQuantity.toNat, e := c.spotE.toNat
    shift := c.spotShift.toNat, gateTimeout := c.spotGateTimeout.toNat }

/-- The port a firing is aimed at. -/
def ReactionConfig.targetPort (c : ReactionConfig) (trigger : Option PortId) : Option PortId :=
  (c.resolve trigger).bind sourcePort

/-- A firing's action, carried out in full (table of R131), with its outcome (R140). REACTION_SET admits no entry whose
target does not resolve to what its action needs (R132). -/
def State.performAction (s : State) (i : EntryId) (c : ReactionConfig) (trigger : Option PortId) : State × FireOutcome :=
  match c.action with
  | .isolate =>
    match c.targetPort trigger with
    | some p => ((s.isolatePort p .reaction).latch (.reacted p), .done)
    | none => (s, .done)
  | .rejoin =>
    match c.targetPort trigger with
    | some p => (s.joinPort p, .done)
    | none => (s, .done)
  | .spot =>
    match c.targetPort trigger with
    | some p => if s.spots.length < spotPlaces then (s.queueSpot (c.spotRequest i p), .done) else (s, .refusedFull)
    | none => (s, .done)
  | .notify =>
    match c.resolve trigger with
    | some source => (s.latch (.note source i), .done)
    | none => (s, .done)
  | .surveyHold => if s.survey.state = .running then (s.holdSurvey, .done) else (s, .refusedState)
  | .surveyResume => if s.survey.state = .held then (s.resumeSurvey, .done) else (s, .refusedState)

/-- The entry's record after a firing, steps 2 to 4 of R136 (R137, R138). -/
def ReactionEntry.fired (now : Word32) (outcome : FireOutcome) (e : ReactionEntry) : ReactionEntry :=
  { e with
    fireCount := addUpTo 255 e.fireCount
    lastFire := some now
    lastOutcome := outcome
    holdbackTimer :=
      if e.config.holdback = 0 then e.holdbackTimer else some (e.config.holdback.toNat * ticksPerMs)
    armed := e.armed && e.config.repeats }

/-- The entry's record takes a firing. -/
def State.recordFiring (s : State) (i : EntryId) (e : ReactionEntry) (outcome : FireOutcome) : State :=
  { s with reactions := s.reactions.set i (some (e.fired s.timebase outcome)) }

/-- A refused action raises REFUSED (step 5 of R136, R140). -/
def State.reportOutcome (s : State) (outcome : FireOutcome) : State :=
  match outcome with
  | .none => s
  | .done => s
  | .refusedFull => s.latch .refused
  | .refusedState => s.latch .refused

/-- An entry fires (R136): the action, the record, and a REFUSED occurrence for a refused action. -/
def State.fire (s : State) (i : EntryId) (e : ReactionEntry) (trigger : Option PortId) : State :=
  let (s, outcome) := s.performAction i e.config trigger
  (s.recordFiring i e outcome).reportOutcome outcome

/-- Whether an entry fires on a trigger (R136). -/
def ReactionEntry.ready (e : ReactionEntry) (o : Occurrence) : Bool :=
  e.armed && e.config.matchesTrigger o && e.holdbackTimer.isNone

/-- A trigger offered to one entry (R136). -/
def State.offerTo (o : Occurrence) (s : State) (i : EntryId) : State :=
  match s.reactions[i] with
  | none => s
  | some e => if e.ready o then s.fire i e o.triggerPort else s

/-- The reaction unit takes a trigger whole: its entries in ascending index (R135, R139). -/
def State.react (s : State) (o : Occurrence) : State := (indexes 24).foldl (State.offerTo o) s

/-- An occurrence handed on: latched by the summary unit, then taken by the reaction unit (R135, R146). -/
def State.raise (s : State) (o : Occurrence) : State := (s.latch o).react o

/-- The occurrences of one step, each with all its firings complete before the next (R135). -/
def State.raiseAll (s : State) (os : List Occurrence) : State := os.foldl State.raise s

end Sys2Proof.Machine
end

