-- ==== Sys2Proof/Machine/Completion.lean ====
section
/-! DEFINITION. Completions with status OK and what they set off: the probe verdict (R113), the result unit's triggers
(R86), trips (R109, R116), and the judgement of samples (R46 to R49). -/
namespace Sys2Proof.Machine

/-- The occurrences of a failed probe or of a trip in PROBING: TRIP first, then GIVEUP (R114, R120). -/
def retryOccurrences (p : PortId) (tripped givesUp : Bool) : List Occurrence :=
  (if tripped then [.trip p] else []) ++ if givesUp then [.giveup p] else []

/-- The retry step and its occurrences at step 5 of R107 (R114). -/
def State.failProbe (s : State) (p : PortId) (tripped : Bool) : State :=
  (s.retryStep p).raiseAll (retryOccurrences p tripped (s.port p).givesUp)

/-- The record of a probe that passes (R113): the settle timer is stopped outside PROBING (R111). -/
def SwitchRec.pass (w : SwitchRec) : SwitchRec :=
  { w with state := .joined, retries := 0, settle := none, slot := .empty }

/-- An OK probe is judged against the probe limit (R113). -/
def State.probeVerdict (s : State) (p : PortId) (value : Nat) : State :=
  if value ≤ (s.port p).params.probeLimit then s.modSwitch p fun _ w => w.pass else s.failProbe p false

/-- The verdict on an OK probe (R113): the slot is emptied and the value stored first; a probe that finds its port no
longer PROBING is discarded (R115). -/
def State.judgeProbe (s : State) (p : PortId) (value : Nat) : State :=
  if (s.port p).switch.state = .probing then
    (s.modSwitch p fun _ w => { w with slot := .empty, lastProbe := some value }).probeVerdict p value
  else s

/-- The hand-over of an OK job to the block that owns its source (R52). -/
def State.deliverOk (s : State) (j : Job) : State :=
  let value := jobValue j.shift j.sum
  match j.origin with
  | .probe p => s.judgeProbe p value
  | .spot _ => let (s, os) := s.handleResult { job := j, status := .ok, value := some value }; s.raiseAll os
  | .survey _ _ => let (s, os) := s.handleResult { job := j, status := .ok, value := some value }; s.raiseAll os

/-- The mark of a hand-over in progress. -/
def State.setHandingOver (s : State) (h : Bool) : State := { s with engine := { s.engine with handingOver := h } }

/-- The active job `j` completes OK: the hand-over, and then the engine's choice (R52, R54). -/
def State.completeOk (s : State) (j : Job) : State :=
  ((((s.setActive none).setHandingOver true).deliverOk j).setHandingOver false).wakeEngine

/-- A sample's code is added (R46, R48, R49). -/
def Job.addSample (j : Job) (code : Code) : Job :=
  { j with sum := j.sum + code.toNat, samplesDone := j.samplesDone + 1 }

/-- A sample of the active job `j` has been taken: the job completes, or `after` says how it goes on. -/
def State.afterSample (s : State) (j : Job) (onward : Job) : State :=
  if j.samplesDone = j.target then s.completeOk j else s.setActive (some onward)

/-- The end of a timed sample (R46): the next begins at once. -/
def State.timedSampleEnds (s : State) (j : Job) (code : Code) : State :=
  let j := j.addSample code
  s.afterSample j { j with sample := .timed sampleTicks }

/-- Whether the code of a sample that spans a symbol is added (R48, R49). -/
def acceptsSample (q : Quantity) (gateHeld : Bool) (c : SymClass) : Bool :=
  match q with
  | .noise => gateHeld && decide (c = .quiet)
  | .sigamp => true
  | .vseg => false
  | .iseg => false
  | .screen => false

/-- The sample in flight on port `p` is judged at the end of its symbol (R48, R49). -/
def State.judgeSample (s : State) (p : PortId) (c : SymClass) (code : Code) : State :=
  match s.engine.active with
  | none => s
  | some j =>
    if j.port = p then
      match j.sample with
      | .idle => s
      | .timed _ => s
      | .symbol gateHeld =>
        if acceptsSample j.quantity gateHeld c then
          let j := j.addSample code
          s.afterSample j { j with sample := .idle }
        else s.setActive (some { j with sample := .idle })
    else s

/-- A symbol boundary on port `p`: the sample in flight is judged, and the sample now due begins or waits (R47). A job
that ends GATE_TIMEOUT here frees the converter. -/
def State.symbolBoundary (s : State) (p : PortId) (c : SymClass) (code : Code) : State :=
  ((s.judgeSample p c code).symbolStart p).wakeEngine

/-- A sample in flight in a symbol time of port `p` that is not delivered is discarded (R48). -/
def State.discardSample (s : State) (p : PortId) : State :=
  match s.engine.active with
  | none => s
  | some j =>
    if j.port = p ∧ (j.sample = Sample.symbol true ∨ j.sample = Sample.symbol false) then
      s.setActive (some { j with sample := .idle })
    else s

/-- A symbol time cut short by a transition (R3, R48): its sample is discarded, and the next symbol starts. -/
def State.symbolCut (s : State) (p : PortId) : State := ((s.discardSample p).symbolStart p).wakeEngine

/-- An overcurrent trip (R108): JOINED moves to HOLDOFF (R109), PROBING takes the retry step (R116), and an open switch
senses none. -/
def State.overcurrent (s : State) (p : PortId) : State :=
  match (s.port p).switch.state with
  | .isolated => s
  | .holdoff => s
  | .joined => (s.tripJoined p).raise (.trip p)
  | .probing => s.failProbe p true

/-- A port's symbol is delivered to the tap and the classifier, with the occurrences in their order (R4, R12, R18). -/
def Port.deliver (now : Word32) (p : PortId) (c : SymClass) (r : Port) : Port × List Occurrence :=
  let (tap, i) := r.tap.deliver r.params.frameLimit c
  let (cond, byClass) := r.cond.takeClass now r.params c
  let (cond, byStart, budget) := cond.takeIndication now r.params i
  ({ r with tap := tap, cond := cond },
    (byClass.toList ++ byStart.toList).map (Occurrence.condition p) ++ if budget then [.budget p] else [])

/-- The class of the symbol that ends (R4), from the times its half-cells held each level; `first` and `second` are the
free values of half-cells that held no level for most of their time (log 33). -/
def Tap.classInProgress (first second : Level) (t : Tap) : SymClass :=
  symbolClass t.midHalf (t.first.level first) (t.second.level second)

/-- The end of a symbol time on port `p` (R4): tap, classifier, occurrences, engine (log 7). -/
def State.deliverSymbol (s : State) (p : PortId) (first second : Level) (code : Code) : State :=
  let c := (s.port p).tap.classInProgress first second
  let (r, os) := (s.port p).deliver s.timebase p c
  ((s.modPort p fun _ => r).raiseAll os).symbolBoundary p c code

/-- Occurrences of the classifier for a change of condition that no symbol brings (R30), after the QUIET gate's closing
has reached the engine (R48). -/
def State.conditionChanged (s : State) (p : PortId) (entered : Option Condition) : State :=
  (s.quietGateClosed p).raiseAll (entered.toList.map (Occurrence.condition p))

end Sys2Proof.Machine
end

