-- ==== Sys2Proof/Machine/Operands.lean ====
section
/-! DEFINITION. Payload bytes and fields (chapter 10): numbers, codes and sets as they are sent, and the checks of R182
with their refusals. -/
namespace Sys2Proof.Machine

/-! ## Numbers in a payload (R177) -/

/-- Payload byte `i`; 0 past the payload's end, where only a request that fails the length check reads (R179). -/
def byteAt (payload : List Byte) (i : Nat) : Byte := payload.getD i 0

/-- The one-byte number at `i`. -/
def u8 (payload : List Byte) (i : Nat) : Nat := (byteAt payload i).toNat

/-- The two-byte number at `i`, least significant byte first. -/
def u16 (payload : List Byte) (i : Nat) : Nat := u8 payload i + 256 * u8 payload (i + 1)

/-- The three-byte set at `i`. -/
def u24 (payload : List Byte) (i : Nat) : Nat := u16 payload i + 65536 * u8 payload (i + 2)

/-- The four-byte number at `i`. -/
def u32 (payload : List Byte) (i : Nat) : Nat := u16 payload i + 65536 * u16 payload (i + 2)

/-- The `width` bytes of a number, least significant first (R177). -/
def le : Nat → Nat → List Byte
  | 0, _ => []
  | width + 1, v => BitVec.ofNat 8 v :: le width (v / 256)

/-- A yes or no byte. -/
def flagByte (b : Bool) : Byte := if b then 1 else 0

/-- What is left of a timer, in whole units rounded up; 0 when stopped (R37, R127, R134). -/
def timeLeft (unit : Nat) (timer : Option Nat) : Nat :=
  match timer with
  | none => 0
  | some left => ceilDiv left unit

/-! ## Codes (10.2) -/

def causeCode : EntryCause → Byte
  | .observed => 0
  | .switched => 1

def switchCode : SwitchState → Byte
  | .isolated => 0
  | .holdoff => 1
  | .probing => 2
  | .joined => 3

def isolationCode : IsolationCause → Byte
  | .host => 0
  | .reaction => 1
  | .giveup => 2
  | .strap => 3

def slotCode : ProbeSlot → Byte
  | .empty => 0
  | .waiting => 1
  | .inEngine => 2

/-- Job source codes; 0 stands for no job. -/
def sourceCode : Origin → Byte
  | .probe _ => 1
  | .spot _ => 2
  | .survey _ _ => 3

/-- The origin id of a job or record: port, tag or slot. -/
def originId : Origin → Byte
  | .probe p => BitVec.ofNat 8 p.val
  | .spot tag => tag
  | .survey slot _ => BitVec.ofNat 8 slot.val

/-- Origin kind codes of a record. -/
def originKind : Origin → Byte
  | .survey _ _ => 0
  | .spot _ => 1
  | .probe _ => 1

/-- The pass number of a survey origin. -/
def originPass : Origin → Option Word16
  | .survey _ pass => some pass
  | .spot _ => none
  | .probe _ => none

def phaseCode : Phase → Byte
  | .settling => 0
  | .sampling => 1
  | .gated => 2

def statusCode : JobStatus → Byte
  | .ok => 0
  | .gateTimeout => 1
  | .portOff => 2

def surveyStateCode : SurveyState → Byte
  | .stopped => 0
  | .running => 1
  | .held => 2

def modeCode : SurveyMode → Byte
  | .continuous => 0
  | .timed => 1
  | .single => 2

def modeOf (code : Nat) : SurveyMode :=
  match code with
  | 0 => .continuous
  | 1 => .timed
  | _ => .single

def pacingCode : Pacing → Byte
  | .stall => 0
  | .overwrite => 1

def pacingOf (code : Nat) : Pacing :=
  match code with
  | 0 => .stall
  | _ => .overwrite

def policyCode : PreemptPolicy → Byte
  | .keep => 0
  | .restart => 1

def policyOf (code : Nat) : PreemptPolicy :=
  match code with
  | 0 => .keep
  | _ => .restart

def appliesCode : AppliesTo → Byte
  | .survey => 0
  | .spot => 1
  | .both => 2

def appliesOf (code : Nat) : AppliesTo :=
  match code with
  | 0 => .survey
  | 1 => .spot
  | _ => .both

def triggerCode : TriggerKind → Byte
  | .condition => 0
  | .dwell => 1
  | .monTrip => 2
  | .monRelease => 3
  | .budget => 4
  | .trip => 5
  | .giveup => 6
  | .linkLost => 7

def triggerOf (code : Nat) : TriggerKind :=
  match code with
  | 0 => .condition
  | 1 => .dwell
  | 2 => .monTrip
  | 3 => .monRelease
  | 4 => .budget
  | 5 => .trip
  | 6 => .giveup
  | _ => .linkLost

def actionCode : ReactionAction → Byte
  | .isolate => 0
  | .rejoin => 1
  | .spot => 2
  | .notify => 3
  | .surveyHold => 4
  | .surveyResume => 5

def actionOf (code : Nat) : ReactionAction :=
  match code with
  | 0 => .isolate
  | 1 => .rejoin
  | 2 => .spot
  | 3 => .notify
  | 4 => .surveyHold
  | _ => .surveyResume

def outcomeCode : FireOutcome → Byte
  | .none => 0
  | .done => 1
  | .refusedFull => 2
  | .refusedState => 3

def sessionCode : SessionState → Byte
  | .closed => 0
  | .opened => 1
  | .lost => 2

/-- The code of the rate that the straps select (10.2, R157). -/
def rateCode (rate1 rate0 : Bool) : Byte :=
  match rate1, rate0 with
  | false, false => 0
  | false, true => 1
  | true, false => 2
  | true, true => 3

/-- The port at payload byte `i`, which a check has found in 0..7. -/
def portAt (payload : List Byte) (i : Nat) : PortId := Fin.ofNat 8 (u8 payload i)

/-- The summary source of a code that a check has found in 0..8. -/
def sourceOf (code : Nat) : SourceId := Fin.ofNat 9 code

/-! ## Checks and refusals (10.5, R181, R182) -/

/-- Refusal reasons. -/
inductive Reason where
  | unknownKind | length | range | state | full | notFound
  deriving DecidableEq, Repr

def reasonCode : Reason → Byte
  | .unknownKind => 1
  | .length => 2
  | .range => 3
  | .state => 4
  | .full => 5
  | .notFound => 6

/-- The outcome of an executed request: REPLY_OK with its payload, or REPLY_REFUSED. -/
inductive Answer where
  | ok (payload : List Byte)
  | refused (reason : Reason) (detail : Byte)
  deriving DecidableEq, Repr

/-- One check of R182, with the reason and detail of its failure. -/
structure Check where
  passes : Bool
  reason : Reason
  detail : Nat
  deriving DecidableEq, Repr

/-- The refusal of the first check that fails (R182). -/
def firstFailure : List Check → Option Answer
  | [] => none
  | c :: rest => if c.passes then firstFailure rest else some (.refused c.reason (BitVec.ofNat 8 c.detail))

/-- A request is refused by its first failing check, with nothing changed, or carried out whole (R181, R182). -/
def validated (checks : List Check) (s : State) (carriedOut : State × List Byte) : State × Answer :=
  match firstFailure checks with
  | some refusal => (s, refusal)
  | none => (carriedOut.1, .ok carriedOut.2)

/-- The length check of R179. -/
def lengthCheck (passes : Bool) (payload : List Byte) : Check := { passes, reason := .length, detail := payload.length }

/-- The check of an exact payload length (R179). -/
def exactLength (n : Nat) (payload : List Byte) : Check := lengthCheck (payload.length == n) payload

/-- A range check whose failing field stands at body position `position` (R178, R181). -/
def rangeCheck (passes : Bool) (position : Nat) : Check := { passes, reason := .range, detail := position }

/-- A state check with its detail (R181). -/
def stateCheck (passes : Bool) (detail : Nat) : Check := { passes, reason := .state, detail }

/-- `low ≤ v ≤ high`. -/
def within (low high v : Nat) : Bool := decide (low ≤ v) && decide (v ≤ high)

end Sys2Proof.Machine
end

