-- ==== Sys2Proof/Machine/Link.lean ====
section
/-! DEFINITION. The host link (chapter 9) without its requests: frames, the output arbiter, reports, ACK, retransmission,
session loss and the receiver's discards. -/
namespace Sys2Proof.Machine

/-! ## Updates -/

/-- The link record changed by `f`. -/
def State.modLink (s : State) (f : Link → Link) : State := { s with link := f s.link }

/-- The session record changed by `f`. -/
def State.modSession (s : State) (f : Session → Session) : State :=
  s.modLink fun l => { l with session := f l.session }

/-- The discarded count, stopping at 65535 (R159). -/
def Link.countDiscard (l : Link) : Link := { l with discarded := addUpTo 65535 l.discarded }

/-- The frame in progress is thrown away and counted, and the receiver hunts (R159). -/
def Link.discardFrame (l : Link) : Link := { l.countDiscard with rx := .hunting }

/-- The link watchdog's full period; 0 is off (R165). -/
def Session.watchdogStart (v : Session) : Option Nat :=
  if v.watchdogPeriod = 0 then none else some (v.watchdogPeriod * 100 * ticksPerMs)

/-- The ack timer's full time (R169). -/
def Session.ackTicks (v : Session) : Nat := v.ackTimeout * 10 * ticksPerMs

/-- A valid frame restarts the link watchdog of an OPEN session (R160, R165). -/
def Session.frameArrives (v : Session) : Session :=
  if v.state = .opened then { v with watchdog := v.watchdogStart } else v

/-- The last byte of a valid frame has arrived: the receiver hunts again (R158; log 10), and the watchdog restarts. -/
def State.frameArrives (s : State) : State :=
  s.modLink fun l => { l with rx := .hunting, session := l.session.frameArrives }

/-! ## Envelopes and report bodies (10.1, 10.6) -/

/-- LEN and BODY: the bytes that CHECK covers (R177). -/
def coveredBytes (body : List Byte) : List Byte := BitVec.ofNat 8 body.length :: body

/-- A whole frame: SYNC, LEN, BODY, CHECK high byte first (R177). -/
def frameBytes (body : List Byte) : List Byte :=
  let check := frameCheck (coveredBytes body)
  0xC5 :: coveredBytes body ++ [check.extractLsb' 8 8, check.extractLsb' 0 8]

/-- A field that a record may lack: no byte where it is absent (R183). -/
def optionalBytes (width : Nat) (field : Option Nat) : List Byte :=
  match field with
  | none => []
  | some v => le width v

/-- The presence byte of a RESULT report (R183). -/
def presenceByte (r : ResultRec) : Nat :=
  maskOf 3 fun
    | 0 => (originPass r.origin).isSome
    | 1 => r.value.isSome
    | _ => r.lost.isSome

/-- The payload of a RESULT report (table of 10.6, R183). -/
def resultPayload (r : ResultRec) : List Byte :=
  le 2 r.id.toNat ++ le 1 (presenceByte r) ++ [originKind r.origin, originId r.origin] ++ le 1 r.port.val ++
    le 1 (quantityCode r.quantity) ++ [statusCode r.status] ++ le 2 r.samples ++ le 4 r.time.toNat ++
    optionalBytes 2 ((originPass r.origin).map BitVec.toNat) ++ optionalBytes 4 r.value ++ optionalBytes 1 r.lost ++
    le 1 r.verdicts.length ++ r.verdicts.flatMap fun v => [BitVec.ofNat 8 v.monitor.val, flagByte v.outside]

/-- The payload of an EVENT report (table of 10.6, R184). -/
def eventPayload (e : EventRec) : List Byte :=
  le 1 e.source.val ++ le 2 e.flags.toNat ++ le 4 e.newest.toNat ++ le 4 e.created.toNat ++ le 1 e.notes.length ++
    e.notes.map (BitVec.ofNat 8)

/-- A RESULT report frame with its number (R168). -/
def resultFrame (seq : Byte) (r : ResultRec) : LineFrame :=
  { report := true, bytes := frameBytes (0x90 :: seq :: resultPayload r) }

/-- An EVENT report frame with its number (R168). -/
def eventFrame (seq : Byte) (e : EventRec) : LineFrame :=
  { report := true, bytes := frameBytes (0x91 :: seq :: eventPayload e) }

/-! ## SENT reports -/

/-- The number of a SENT record. -/
def SendState.number : SendState → Option Byte
  | .waiting => none
  | .sent seq => some seq

/-- The numbers of all SENT reports, event and result records together. -/
def State.sentNumbers (s : State) : List Byte :=
  s.summary.events.filterMap (fun e => e.send.number) ++ s.results.queue.filterMap fun r => r.send.number

/-- How many numbers were given after `seq` (R168): 0 for the newest. -/
def numbersAfter (next seq : Byte) : Nat := (next - 1 - seq).toNat

/-- A number put into a list in the order of giving, oldest first. -/
def insertNumber (next seq : Byte) : List Byte → List Byte
  | [] => [seq]
  | q :: rest =>
    if numbersAfter next q < numbersAfter next seq then seq :: q :: rest else q :: insertNumber next seq rest

/-- The SENT reports in the order of their numbers (R171). -/
def State.sentInOrder (s : State) : List Byte :=
  s.sentNumbers.foldl (fun qs q => insertNumber s.link.session.nextSeq q qs) []

/-- The ack timer while no report frame is on the line: the full ack timeout if a report is SENT, stopped otherwise
(R169). -/
def State.ackTimerStart (s : State) : Option Nat :=
  if s.sentNumbers.isEmpty then none else some s.link.session.ackTicks

/-- A report frame is on the line. -/
def Link.reportOnLine (l : Link) : Bool :=
  match l.line with
  | none => false
  | some f => f.report

/-! ## The output arbiter (R167, R168) -/

/-- A frame goes onto the line. -/
def State.putOnLine (s : State) (f : LineFrame) : State := s.modLink fun l => { l with line := some f }

/-- A report frame goes onto the line, and the ack timer does not run meanwhile (R169). -/
def State.putReport (s : State) (f : LineFrame) : State :=
  (s.putOnLine f).modSession fun v => { v with ackTimer := none }

/-- The next sequence number is taken (R168). -/
def State.takeNumber (s : State) : State := s.modSession fun v => { v with nextSeq := v.nextSeq + 1 }

/-- The first WAITING record becomes SENT with `seq`; the record as it stood. -/
def sendFirstEvent (seq : Byte) : List EventRec → Option (EventRec × List EventRec)
  | [] => none
  | e :: rest =>
    if e.send = .waiting then some (e, { e with send := .sent seq } :: rest)
    else (sendFirstEvent seq rest).map fun (found, rest) => (found, e :: rest)

/-- The first WAITING result record becomes SENT with `seq` (R94). -/
def sendFirstResult (seq : Byte) : List ResultRec → Option (ResultRec × List ResultRec)
  | [] => none
  | r :: rest =>
    if r.send = .waiting then some (r, { r with send := .sent seq } :: rest)
    else (sendFirstResult seq rest).map fun (found, rest) => (found, r :: rest)

/-- A new report may be started: the session is OPEN and fewer than window reports are SENT (R167). -/
def State.windowOpen (s : State) : Bool :=
  decide (s.link.session.state = .opened) && decide (s.sentNumbers.length < s.link.session.window)

/-- Steps 3 and 4 of R167: the oldest WAITING event record, else the oldest WAITING result record. -/
def State.startReport (s : State) : State :=
  let seq := s.link.session.nextSeq
  match sendFirstEvent seq s.summary.events with
  | some (e, events) =>
    ({ s with summary := { s.summary with events := events } }.takeNumber).putReport (eventFrame seq e)
  | none =>
    match sendFirstResult seq s.results.queue with
    | some (r, queue) =>
      ({ s with results := { s.results with queue := queue } }.takeNumber).putReport (resultFrame seq r)
    | none => s

/-- The frame of the SENT report with a number, built from the record as it stands. -/
def State.sentFrame (s : State) (seq : Byte) : Option LineFrame :=
  match s.summary.events.find? fun e => decide (e.send = .sent seq) with
  | some e => some (eventFrame seq e)
  | none => (s.results.queue.find? fun r => decide (r.send = .sent seq)).map (resultFrame seq)

/-- The head of the retransmit list is sent again (step 2 of R167). The list holds numbers of SENT reports only, so the
record is there. -/
def State.retransmitHead (s : State) (seq : Byte) (rest : List Byte) : State :=
  let s := s.modSession fun v => { v with retransmit := rest }
  match s.sentFrame seq with
  | some f => s.putReport f
  | none => s

/-- The output arbiter: on a free line it takes the first that is ready (R167). -/
def State.arbitrate (s : State) : State :=
  match s.link.line with
  | some _ => s
  | none =>
    match s.link.replies with
    | body :: _ => s.putOnLine { report := false, bytes := frameBytes body }
    | [] =>
      match s.link.session.retransmit with
      | seq :: rest => s.retransmitHead seq rest
      | [] => if s.windowOpen then s.startReport else s

/-! ## Session loss and the return of SENT records (R94, R154, R166) -/

/-- Every SENT record returns to WAITING, and the event records merge. -/
def State.returnSent (s : State) : State :=
  { s with
    results := { s.results with queue := s.results.queue.map fun r => { r with send := .waiting } }
    summary := { s.summary with events := returnEvents s.summary.events } }

/-- Step 1 of R166. -/
def Session.lose (v : Session) : Session :=
  { v with state := .lost, ackTimer := none, watchdog := none, retransmit := [], retryCount := 0 }

/-- The session enters LOST (R166). -/
def State.enterLost (s : State) : State := ((s.modSession Session.lose).returnSent).raise .linkLost

/-- An expiry of the ack timer (R171): the go-back retransmission, or LOST. -/
def State.ackTimeoutExpires (s : State) : State :=
  if s.link.session.retryCount < s.link.session.retransmitLimit then
    s.modSession fun v =>
      { v with retryCount := v.retryCount + 1, retransmit := s.sentInOrder, ackTimer := none }
  else s.enterLost

/-! ## ACK (R170) -/

/-- A report is left standing by the ACK of `seq`: it is WAITING, or its number was given later. -/
def survivesAck (next seq : Byte) (send : SendState) : Bool :=
  match send with
  | .waiting => true
  | .sent q => decide (numbersAfter next q < numbersAfter next seq)

/-- The ACK of a SENT report: that report and all older ones leave (R90, R94, R153, R170). -/
def State.acknowledge (s : State) (seq : Byte) : State :=
  let next := s.link.session.nextSeq
  let s := { s with
    results := { s.results with queue := s.results.queue.filter fun r => survivesAck next seq r.send }
    summary := { s.summary with events := s.summary.events.filter fun e => survivesAck next seq e.send } }
  s.modSession fun v => { v with
    retryCount := 0
    retransmit := v.retransmit.filter fun q => decide (numbersAfter next q < numbersAfter next seq)
    ackTimer := if s.link.reportOnLine then none else s.ackTimerStart }

/-- A valid ACK frame (R160, R170): it restarts the watchdog; of the wrong length it is ignored and counted; one that
names no SENT report of an OPEN session is ignored. Freed result places reach the engine (R90). -/
def State.takeAck (s : State) (seq : Byte) (payload : List Byte) : State :=
  let s := s.frameArrives
  if payload ≠ [] then s.modLink Link.countDiscard
  else if s.link.session.state = .opened ∧ seq ∈ s.sentNumbers then (s.acknowledge seq).wakeEngine
  else s

end Sys2Proof.Machine
end

