-- ==== Sys2Proof/Machine/LineCommands.lean ====
section
/-! DEFINITION. The events on a segment's line: LINE_TRANSITION, SYMBOL_DELIVERY, POWER_SENSE_CHANGE and the classifier's
timers. A timer's command lets the timer's time to go pass and then acts (log 2); an event that cannot occur in the
state leaves the part as it is (log 3). -/
namespace Sys2Proof.Machine

/-- The answer of a command whose effect may make a reply or report ready: on a free line the output arbiter chooses at
once (R167). That it chooses after the whole effect, and not at the first record of several that the effect makes ready,
is the model's choice (DESIGN CHOICE, unsafe; log 32). -/
def State.answered (s : State) : Host.Outcome State Fault Refusal := .next s.arbitrate

/-- The time up to the `offset` of the symbol in progress passes (R3). -/
def State.elapseTo (s : State) (p : PortId) (offset : Nat) : State := s.elapse (min offset symbolTicks - (s.port p).tap.position)

/-- The line of port `p` changes its level. -/
def State.setLine (s : State) (p : PortId) (target : Level) : State := s.modPort p fun r => { r with line := target }

/-- LINE_TRANSITION (R3, R48): the line takes its new level, which an open switch keeps from the tap (R6). A transition
from a level that the line does not have, or to the same level, cannot occur (log 3). -/
def execLineTransition (p : PortId) (source target : Level) (offset : Nat) (s : State) :
    Host.Outcome State Fault Refusal :=
  if (s.port p).line ≠ source ∨ source = target then .next s
  else if s.closed p = true then
    let s := (s.elapseTo p offset).setLine p target
    match (s.port p).tap.timing with
    | .free =>
      if locksTiming source target then
        ((s.modPort p fun r => { r with tap := r.tap.lock }).symbolCut p).answered
      else .next s
    | .locked => .next (s.modPort p fun r => { r with tap := r.tap.lockedTransition })
  else .next (s.setLine p target)

/-- SYMBOL_DELIVERY (R4): the tap delivers while the switch is closed (R6). -/
def execSymbolDelivery (p : PortId) (first second : Level) (code : Code) (s : State) :
    Host.Outcome State Fault Refusal :=
  if s.closed p = true then ((s.elapseTo p symbolTicks).deliverSymbol p first second code).answered else .next s

/-- POWER_SENSE_CHANGE (R1, R23): the classifier takes the signal while the switch is closed. -/
def execPowerSenseChange (p : PortId) (good : Bool) (s : State) : Host.Outcome State Fault Refusal :=
  if (s.port p).powerGood = good then .next s
  else
    .next <| s.modPort p fun r =>
      { r with powerGood := good, cond := if r.switch.state.closed then r.cond.powerSense good else r.cond }

/-- SENSE_TIMER_EXPIRY (R23, R28). -/
def execSenseTimerExpiry (p : PortId) (s : State) : Host.Outcome State Fault Refusal :=
  match (s.port p).cond.sense with
  | none => .next s
  | some run =>
    let s := s.elapse (senseTicks - run)
    let (cond, entered) := (s.port p).cond.senseExpires s.timebase
    ((s.modPort p fun r => { r with cond := cond }).conditionChanged p entered).answered

/-- DRAIN_EXPIRY (R22). -/
def execDrainExpiry (p : PortId) (s : State) : Host.Outcome State Fault Refusal :=
  match (s.port p).cond.drain with
  | none => .next s
  | some left => .next ((s.elapse left).modPort p fun r => { r with cond := r.cond.drainExpires r.params })

/-- BUDGET_WINDOW_EXPIRY (R34). -/
def execBudgetWindowExpiry (p : PortId) (s : State) : Host.Outcome State Fault Refusal :=
  match (s.port p).cond.budgetTimer with
  | none => .next s
  | some left => .next ((s.elapse left).modPort p fun r => { r with cond := r.cond.reloadBudget r.params })

/-- DWELL_STEP (R31): the dwell rises and the reaction unit gets the offer; nothing at the stop of 65535. -/
def execDwellStep (p : PortId) (s : State) : Host.Outcome State Fault Refusal :=
  if (s.port p).cond.dwell < 65535 then
    let s := (s.elapse (s.port p).cond.dwellLeft).modPort p fun r => { r with cond := r.cond.stepDwell }
    (s.raise (.dwell p (s.port p).cond.condition (s.port p).cond.dwell)).answered
  else .next s

end Sys2Proof.Machine
end

