-- ==== Sys2Proof/Machine/EngineCommands.lean ====
section
/-! DEFINITION. The events of the engine and the survey sequencer: JOB_START, ENGINE_SETTLE_END, SAMPLE_END,
GATE_TIMEOUT, PASS_FLOOR_EXPIRY, PACE_TICK (R44 to R46, R50, R76, R77). -/
namespace Sys2Proof.Machine

/-- JOB_START (R44, R54, R55, R57): with the converter free and a source ready, the chosen job starts; a ready probe or
spot preempts a survey job. -/
def execJobStart (s : State) : Host.Outcome State Fault Refusal := s.wakeEngine.answered

/-- ENGINE_SETTLE_END (R45). -/
def execEngineSettleEnd (s : State) : Host.Outcome State Fault Refusal :=
  match s.engine.active with
  | none => .next s
  | some j =>
    match j.phase with
    | .settling => (((s.elapse j.settleLeft).settled { j with settleLeft := 0 }).wakeEngine).answered
    | .sampling => .next s
    | .gated => .next s

/-- SAMPLE_END (R46): the timed sample of an ungated job in SAMPLING ends. -/
def execSampleEnd (code : Code) (s : State) : Host.Outcome State Fault Refusal :=
  match s.engine.active with
  | none => .next s
  | some j =>
    match j.phase, j.sample with
    | .sampling, .timed left => ((s.elapse left).timedSampleEnds j code).answered
    | .sampling, .idle => .next s
    | .sampling, .symbol _ => .next s
    | .settling, _ => .next s
    | .gated, _ => .next s

/-- GATE_TIMEOUT (R50): the gate wait used of a GATED job reaches its gate timeout. -/
def execGateTimeout (s : State) : Host.Outcome State Fault Refusal :=
  match s.engine.active with
  | none => .next s
  | some j =>
    match j.phase with
    | .gated =>
      (((s.elapse (j.gateTimeout * ticksPerMs - j.gateWait)).endActive .gateTimeout).wakeEngine).answered
    | .settling => .next s
    | .sampling => .next s

/-- The survey waits for its pass floor, RUNNING or HELD (R76, R78). -/
def Survey.awaitsFloor (v : Survey) : Bool :=
  decide (v.mode = .continuous) && decide (v.state ≠ .stopped) && !v.inPass

/-- PASS_FLOOR_EXPIRY (R76, R78): the next pass starts if the survey is RUNNING; HELD, it starts at the resumption. -/
def execPassFloorExpiry (s : State) : Host.Outcome State Fault Refusal :=
  if s.survey.awaitsFloor then
    let s := s.elapse s.survey.floorLeft
    match s.survey.state with
    | .running => ({ s with survey := s.survey.startPass s.timebase }.wakeEngine).answered
    | .held => .next s
    | .stopped => .next s
  else .next s

/-- A pace tick on the survey record (table of R77). -/
def Survey.tick (now : Word32) (v : Survey) : Survey :=
  let v := { v with pace := some (v.interval * ticksPerMs) }
  match v.state, v.inPass with
  | .running, false => v.startPass now
  | .running, true => { v with tickPending := true }
  | .held, _ => { v with tickPending := true }
  | .stopped, _ => v

/-- PACE_TICK (R77): the timer restarts at each tick. -/
def execPaceTick (s : State) : Host.Outcome State Fault Refusal :=
  match s.survey.pace with
  | none => .next s
  | some left =>
    let s := s.elapse left
    ({ s with survey := s.survey.tick s.timebase }.wakeEngine).answered

end Sys2Proof.Machine
end

