-- ==== Sys2Proof/Machine/PortRequests.lean ====
section
/-! DEFINITION. The requests on ports: PORT_SET, PORT_GET, PORT_JOIN, PORT_ISOLATE, COUNTS (R16, R35 to R37, R117,
R118). Each answers with the state after the request and its reply. -/
namespace Sys2Proof.Machine

/-- The port field at body position 2. -/
def portCheck (payload : List Byte) : Check := rangeCheck (decide (u8 payload 0 < 8)) 2

/-! ## PORT_SET (R35, R36, R124) -/

/-- The write set names parameter `n` of section 2.6. -/
def writes (payload : List Byte) (n : Nat) : Bool := (u16 payload 1).testBit n

/-- The range check of a parameter that the write set names; the others are not checked (R35). -/
def paramCheck (payload : List Byte) (n : Nat) (passes : Bool) (position : Nat) : Check :=
  rangeCheck (!writes payload n || passes) position

/-- The checks of PORT_SET (R35, ranges of 2.6). -/
def portSetChecks (payload : List Byte) (s : State) : List Check :=
  [ exactLength 14 payload, portCheck payload
  , rangeCheck (decide (u16 payload 1 < 512)) 3
  , paramCheck payload 0 (decide (1 ≤ u8 payload 3)) 5
  , paramCheck payload 1 (decide (1 ≤ u8 payload 4)) 6
  , paramCheck payload 2 (within 16 511 (u16 payload 5)) 7
  , paramCheck payload 5 (decide (1 ≤ u8 payload 9)) 11
  , paramCheck payload 6 (decide (1 ≤ u8 payload 10)) 12
  , paramCheck payload 7 (decide (u16 payload 11 ≤ 4095)) 13
  , paramCheck payload 8 (within 1 15 (u8 payload 13)) 15
  , stateCheck
      (match (s.port (portAt payload 0)).switch.state with
       | .isolated => true
       | .holdoff => false
       | .probing => false
       | .joined => true) 2 ]

/-- The parameters after the write set (R35). -/
def Params.written (payload : List Byte) (q : Params) : Params :=
  { noiseCeiling := if writes payload 0 then u8 payload 3 else q.noiseCeiling
    drainInterval := if writes payload 1 then u8 payload 4 else q.drainInterval
    frameLimit := if writes payload 2 then u16 payload 5 else q.frameLimit
    errorBudget := if writes payload 3 then u8 payload 7 else q.errorBudget
    budgetWindow := if writes payload 4 then u8 payload 8 else q.budgetWindow
    holdTime := if writes payload 5 then u8 payload 9 else q.holdTime
    settleTime := if writes payload 6 then u8 payload 10 else q.settleTime
    probeLimit := if writes payload 7 then u16 payload 11 else q.probeLimit
    maxRetries := if writes payload 8 then u8 payload 13 else q.maxRetries }

/-- The classifier's record after PORT_SET, and the condition entered (R36). -/
def CondRec.portSet (now : Word32) (payload : List Byte) (q : Params) (r : CondRec) : CondRec × Option Condition :=
  let (r, entered) := if writes payload 0 then r.newCeiling now q.noiseCeiling else (r, none)
  (if writes payload 3 || writes payload 4 then r.reloadBudget q else r, entered)

/-- The port after PORT_SET (R35, R36, R124): lowered max retries bring the retries down. -/
def Port.portSet (now : Word32) (payload : List Byte) (r : Port) : Port × Option Condition :=
  let q := r.params.written payload
  let (cond, entered) := r.cond.portSet now payload q
  let retries := if writes payload 8 then min r.switch.retries q.maxRetries else r.switch.retries
  ({ r with params := q, cond := cond, switch := { r.switch with retries := retries } }, entered)

/-- PORT_SET carried out: all records change together, and then a NOISY occurrence is handed on (log 23). -/
def State.portSet (s : State) (payload : List Byte) : State :=
  let p := portAt payload 0
  let (r, entered) := (s.port p).portSet s.timebase payload
  (s.modPort p fun _ => r).conditionChanged p entered

/-- PORT_SET (R35). -/
def answerPortSet (payload : List Byte) (s : State) : State × Answer :=
  validated (portSetChecks payload s) s (s.portSet payload, [])

/-! ## PORT_GET (R37) -/

/-- The nine parameters in the order of PORT_SET, 11 bytes (10.4). -/
def paramBytes (q : Params) : List Byte :=
  le 1 q.noiseCeiling ++ le 1 q.drainInterval ++ le 2 q.frameLimit ++ le 1 q.errorBudget ++ le 1 q.budgetWindow ++
    le 1 q.holdTime ++ le 1 q.settleTime ++ le 2 q.probeLimit ++ le 1 q.maxRetries

/-- The snapshot of a condition record (table of R37). -/
def condBytes (r : CondRec) : List Byte :=
  le 1 (conditionCode r.condition) ++ [causeCode r.cause] ++ le 4 r.entryTime.toNat ++ le 2 r.dwell ++
    le 1 r.noiseLevel ++ le 2 r.activeRun ++ le 1 r.budgetLeft ++ le 1 (timeLeft ticksPerSecond r.budgetTimer)

/-- PORT_GET (R37). -/
def answerPortGet (payload : List Byte) (s : State) : State × Answer :=
  let r := s.port (portAt payload 0)
  validated [exactLength 1 payload, portCheck payload] s
    (s, byteAt payload 0 :: (paramBytes r.params ++ condBytes r.cond))

/-! ## PORT_JOIN and PORT_ISOLATE (R117, R118) -/

/-- A port and its switch state (10.4). -/
def State.switchReply (s : State) (p : PortId) : State × List Byte :=
  (s, [BitVec.ofNat 8 p.val, switchCode (s.port p).switch.state])

/-- PORT_JOIN (R117). -/
def answerPortJoin (payload : List Byte) (s : State) : State × Answer :=
  validated [exactLength 1 payload, portCheck payload] s
    ((s.joinPort (portAt payload 0)).switchReply (portAt payload 0))

/-- PORT_ISOLATE (R118). -/
def answerPortIsolate (payload : List Byte) (s : State) : State × Answer :=
  validated [exactLength 1 payload, portCheck payload] s
    ((s.isolatePort (portAt payload 0) .host).switchReply (portAt payload 0))

/-! ## COUNTS (R16) -/

/-- The five counters (10.4). -/
def counterBytes (k : Counters) : List Byte :=
  le 4 k.good.toNat ++ le 4 k.badCheck.toNat ++ le 4 k.broken.toNat ++ le 4 k.overlong.toNat ++ le 4 k.junk.toNat

/-- The counters of a port set to 0. -/
def State.zeroCounters (s : State) (p : PortId) : State :=
  s.modPort p fun r => { r with tap := { r.tap with counters := .zero } }

/-- COUNTS (R16): with ZERO the counters are cleared after they are read. -/
def answerCounts (payload : List Byte) (s : State) : State × Answer :=
  let p := portAt payload 0
  validated [exactLength 2 payload, portCheck payload, rangeCheck (decide (u8 payload 1 < 2)) 3] s
    (if u8 payload 1 = 1 then s.zeroCounters p else s,
      byteAt payload 0 :: counterBytes (s.port p).tap.counters)

end Sys2Proof.Machine
end

