-- ==== Sys2Proof/Machine/Status.lean ====
section
/-! DEFINITION. The STATUS reply (R172, 10.7), part by part in the order of its table. -/
namespace Sys2Proof.Machine

/-- The number of elements with `f`. -/
def countWhere {α : Type} (f : α → Bool) (xs : List α) : Nat := (xs.filter f).length

/-- A record is WAITING. -/
def SendState.isWaiting : SendState → Bool
  | .waiting => true
  | .sent _ => false

/-- The active job's fields; 0 where no job is active (R64, R178). -/
def activeBytes : Option Job → List Byte
  | none => le 9 0
  | some j =>
    [sourceCode j.origin, originId j.origin] ++ le 2 ((originPass j.origin).getD 0).toNat ++
      le 1 j.port.val ++ le 1 (quantityCode j.quantity) ++ [phaseCode j.phase] ++ le 2 j.samplesDone

/-- The parked job's fields; 0 where no job is parked (R64, R178). -/
def parkedBytes : Option Job → List Byte
  | none => le 4 0
  | some j => [1, originId j.origin] ++ le 2 ((originPass j.origin).getD 0).toNat

/-- The survey record, with the slot of a STALL wait or 0xFF (R85). -/
def State.surveyBytes (s : State) : List Byte :=
  let v := s.survey
  [surveyStateCode v.state, modeCode v.mode, pacingCode v.pacing, policyCode v.policy] ++ le 2 v.interval ++
    le 1 v.cursor ++ [flagByte v.inPass] ++ le 2 v.passNumber.toNat ++ [flagByte v.tickPending] ++ le 1 v.lost ++
    match s.stallSlot with
    | none => [0xFF]
    | some slot => le 1 slot.val

/-- The spot queue: queued, head tag, and whether the head waits for a reservation (R85). -/
def State.spotBytes (s : State) : List Byte :=
  match s.spots with
  | [] => le 3 0
  | r :: _ => le 1 s.spots.length ++ [r.tag, flagByte (!s.results.hasFree)]

/-- Monitor `i` has a port OUTSIDE (R105). -/
def Results.monitorOutside (u : Results) (i : Nat) : Bool :=
  if h : i < 12 then u.monitors[i].ports.toList.any (·.outside) else false

/-- The result unit (table of R105). -/
def resultUnitBytes (u : Results) : List Byte :=
  le 1 (countWhere (·.send.isWaiting) u.queue) ++ le 1 (countWhere (!·.send.isWaiting) u.queue) ++
    le 1 u.reservations ++ le 1 (resultPlaces - u.used) ++ le 2 u.nextId.toNat ++ [flagByte u.alert] ++
    le 2 (maskOf 12 u.monitorOutside)

/-- A port switch record, 9 bytes (table of R127). -/
def switchBytes (w : SwitchRec) : List Byte :=
  [switchCode w.state, isolationCode w.cause] ++ le 1 w.retries ++ le 2 (timeLeft ticksPerMs w.hold) ++
    le 1 (timeLeft ticksPerMs w.settle) ++ [slotCode w.slot] ++ le 2 (w.lastProbe.getD 0xFFFF)

/-- The summary unit (R156). -/
def summaryUnitBytes (u : Summary) : List Byte :=
  le 4 u.stamp.toNat ++ le 1 (countWhere (·.send.isWaiting) u.events) ++
    le 1 (countWhere (!·.send.isWaiting) u.events)

/-- The session parameters in HELLO units (10.4, 10.7). -/
def sessionParamBytes (v : Session) : List Byte :=
  le 1 v.window ++ le 1 v.ackTimeout ++ le 1 v.retransmitLimit ++ le 1 v.watchdogPeriod

/-- The host link (table of R172); the queued replies count this one. -/
def State.linkBytes (s : State) : List Byte :=
  let l := s.link
  sessionCode l.session.state :: sessionParamBytes l.session ++ [rateCode l.rate1 l.rate0, l.session.nextSeq] ++
    le 1 s.sentNumbers.length ++ le 1 l.session.retryCount ++ le 2 l.discarded ++ le 1 (l.replies.length + 1)

/-- The STATUS payload, 132 bytes (10.7). -/
def State.statusBytes (s : State) : List Byte :=
  le 4 s.timebase.toNat ++ activeBytes s.engine.active ++ parkedBytes s.engine.parked ++ s.surveyBytes ++
    s.spotBytes ++ resultUnitBytes s.results ++ s.ports.toList.flatMap (fun r => switchBytes r.switch) ++
    summaryUnitBytes s.summary ++ s.linkBytes

end Sys2Proof.Machine
end

