-- ==== Sys2Proof/Machine/SurveyRequests.lean ====
section
/-! DEFINITION. The requests on the survey and the spot queue: SURVEY_PUT, SURVEY_GET, SURVEY_RUN, SURVEY_HOLD,
SURVEY_RESUME, SURVEY_STOP, SPOT, SPOT_CANCEL (R66 to R71, R81, R84). -/
namespace Sys2Proof.Machine

/-! ## SURVEY_PUT and SURVEY_GET (R66, R67) -/

/-- Header checks of a slot range (step 1 of R66). -/
def slotRangeChecks (payload : List Byte) : List Check :=
  [ rangeCheck (decide (u8 payload 0 < 48)) 2
  , rangeCheck (within 1 16 (u8 payload 1)) 3
  , rangeCheck (decide (u8 payload 0 + u8 payload 1 ≤ 48)) 3 ]

/-- The first payload byte of description `i`. -/
def descriptionStart (i : Nat) : Nat := 2 + 9 * i

/-- The checks of one description (step 2 of R66): the fields of an EMPTY one are not checked. -/
def descriptionChecks (payload : List Byte) (i : Nat) : List Check :=
  let k := descriptionStart i
  rangeCheck (decide (u8 payload k < 2)) (k + 2) ::
    if u8 payload k = 1 then
      [ rangeCheck (decide (u8 payload (k + 1) < 8)) (k + 3)
      , rangeCheck (decide (u8 payload (k + 2) < 5)) (k + 4)
      , rangeCheck (decide (u8 payload (k + 3) ≤ 8)) (k + 5)
      , rangeCheck (decide (u8 payload (k + 4) ≤ 8)) (k + 6)
      , rangeCheck (decide (1 ≤ u16 payload (k + 5))) (k + 7)
      , rangeCheck (decide (u8 payload (k + 7) < 2)) (k + 9)
      , rangeCheck (decide (u8 payload (k + 8) < 2)) (k + 10) ]
    else []

/-- The length check of SURVEY_PUT, by its own count (R179). -/
def surveyPutLength (payload : List Byte) : Check :=
  lengthCheck
    (decide (2 ≤ payload.length) &&
      (!within 1 16 (u8 payload 1) || payload.length == 2 + 9 * u8 payload 1)) payload

/-- The checks of SURVEY_PUT (R66, R182). -/
def surveyPutChecks (payload : List Byte) (s : State) : List Check :=
  surveyPutLength payload :: slotRangeChecks payload ++
    (List.range (u8 payload 1)).flatMap (descriptionChecks payload) ++
    [stateCheck (decide (s.survey.state = .stopped)) 0]

/-- The slot content of description `i`. -/
def describedSlot (payload : List Byte) (i : Nat) : Option SurveyEntry :=
  let k := descriptionStart i
  if u8 payload k = 1 then
    some {
      port := portAt payload (k + 1), quantity := quantityOf (u8 payload (k + 2)), e := u8 payload (k + 3)
      shift := u8 payload (k + 4), gateTimeout := u16 payload (k + 5), reported := u8 payload (k + 7) == 0
      enabled := u8 payload (k + 8) == 1 }
  else none

/-- The slots with the described range written (R66). -/
def writtenSlots (payload : List Byte) (slots : Vector (Option SurveyEntry) 48) : Vector (Option SurveyEntry) 48 :=
  (List.range (u8 payload 1)).foldl
    (fun v i => v.set (Fin.ofNat 48 (u8 payload 0 + i)) (describedSlot payload i)) slots

/-- SURVEY_PUT (R66). -/
def answerSurveyPut (payload : List Byte) (s : State) : State × Answer :=
  validated (surveyPutChecks payload s) s
    ({ s with survey := { s.survey with slots := writtenSlots payload s.survey.slots } },
      [byteAt payload 0, byteAt payload 1])

/-- The description of a slot's content (table of 10.3); the fields behind an EMPTY occupancy are 0 (R178; log 16). -/
def descriptionBytes : Option SurveyEntry → List Byte
  | none => le 9 0
  | some e =>
    [1] ++ le 1 e.port.val ++ le 1 (quantityCode e.quantity) ++ le 1 e.e ++ le 1 e.shift ++ le 2 e.gateTimeout ++
      [flagByte (!e.reported), flagByte e.enabled]

/-- SURVEY_GET (R67). -/
def answerSurveyGet (payload : List Byte) (s : State) : State × Answer :=
  validated (exactLength 2 payload :: slotRangeChecks payload) s
    (s, [byteAt payload 0, byteAt payload 1] ++
      (List.range (u8 payload 1)).flatMap fun i =>
        descriptionBytes s.survey.slots[Fin.ofNat 48 (u8 payload 0 + i)])

/-! ## The survey state (R68 to R71) -/

/-- Some slot holds an enabled entry. -/
def Survey.hasEnabled (v : Survey) : Bool :=
  v.slots.toList.any fun
    | none => false
    | some e => e.enabled

/-- The checks of SURVEY_RUN (R68). -/
def surveyRunChecks (payload : List Byte) (s : State) : List Check :=
  [ exactLength 5 payload
  , rangeCheck (decide (u8 payload 0 < 3)) 2
  , rangeCheck (decide (u8 payload 1 < 2)) 3
  , rangeCheck (decide (u8 payload 2 < 2)) 4
  , rangeCheck (decide (10 ≤ u16 payload 3)) 5
  , stateCheck (decide (s.survey.state = .stopped)) 0
  , { passes := s.survey.hasEnabled, reason := .notFound, detail := 0 } ]

/-- The pace timer's full time (R77). -/
def Survey.paceStart (v : Survey) : Nat := v.interval * ticksPerMs

/-- The survey record set running, before its first pass (R68). -/
def Survey.run (payload : List Byte) (v : Survey) : Survey :=
  let v := { v with
    mode := modeOf (u8 payload 0), pacing := pacingOf (u8 payload 1), policy := policyOf (u8 payload 2)
    interval := u16 payload 3, lost := 0, tickPending := false, state := .running }
  { v with
    pace :=
      match v.mode with
      | .timed => some v.paceStart
      | .continuous => none
      | .single => none }

/-- SURVEY_RUN (R68): the reply carries the number of the first pass. -/
def answerSurveyRun (payload : List Byte) (s : State) : State × Answer :=
  let v := (s.survey.run payload).startPass s.timebase
  validated (surveyRunChecks payload s) s ({ s with survey := v }.wakeEngine, le 2 v.passNumber.toNat)

/-- SURVEY_HOLD (R69). -/
def answerSurveyHold (payload : List Byte) (s : State) : State × Answer :=
  validated [exactLength 0 payload, stateCheck (decide (s.survey.state = .running)) 0] s (s.holdSurvey, [])

/-- SURVEY_RESUME (R70). -/
def answerSurveyResume (payload : List Byte) (s : State) : State × Answer :=
  validated [exactLength 0 payload, stateCheck (decide (s.survey.state = .held)) 0] s (s.resumeSurvey, [])

/-- SURVEY_STOP (R71). -/
def answerSurveyStop (payload : List Byte) (s : State) : State × Answer :=
  validated [exactLength 0 payload, stateCheck (decide (s.survey.state ≠ .stopped)) 0] s
    (s.stopSurvey, le 2 s.survey.passNumber.toNat)

/-! ## SPOT and SPOT_CANCEL (R81, R84) -/

/-- The checks of SPOT (R81): the tag stands at body position 1. -/
def spotChecks (tag : Byte) (payload : List Byte) (s : State) : List Check :=
  [ exactLength 6 payload
  , rangeCheck (within 1 127 tag.toNat) 1
  , rangeCheck (decide (u8 payload 0 < 8)) 2
  , rangeCheck (decide (u8 payload 1 < 5)) 3
  , rangeCheck (decide (u8 payload 2 ≤ 8)) 4
  , rangeCheck (decide (u8 payload 3 ≤ 8)) 5
  , rangeCheck (decide (1 ≤ u16 payload 4)) 6
  , { passes := decide (s.spots.length < spotPlaces), reason := .full, detail := 0 } ]

/-- The spot that a SPOT request asks for. -/
def requestedSpot (tag : Byte) (payload : List Byte) : SpotRequest :=
  { tag := tag, port := portAt payload 0, quantity := quantityOf (u8 payload 1), e := u8 payload 2
    shift := u8 payload 3, gateTimeout := u16 payload 4 }

/-- SPOT (R81): the reply carries the number of spots after the join, before the engine takes the head. -/
def answerSpot (tag : Byte) (payload : List Byte) (s : State) : State × Answer :=
  validated (spotChecks tag payload s) s (s.queueSpot (requestedSpot tag payload), le 1 (s.spots.length + 1))

/-- The queued requests that carry a tag. -/
def State.spotsTagged (s : State) (tag : Byte) : List SpotRequest := s.spots.filter fun r => decide (r.tag = tag)

/-- The requests with a tag leave the queue, and a new head may start or preempt (R57, R84). -/
def State.cancelSpots (s : State) (tag : Byte) : State :=
  { s with spots := s.spots.filter fun r => decide (r.tag ≠ tag) }.wakeEngine

/-- SPOT_CANCEL (R84). -/
def answerSpotCancel (payload : List Byte) (s : State) : State × Answer :=
  let tag := byteAt payload 0
  validated
    [ exactLength 1 payload, rangeCheck (decide (tag ≠ 0)) 2
    , { passes := !(s.spotsTagged tag).isEmpty, reason := .notFound, detail := 0 } ] s
    (s.cancelSpots tag, le 1 (s.spotsTagged tag).length)

end Sys2Proof.Machine
end

