-- ==== Sys2Proof/Machine/TableRequests.lean ====
section
/-! DEFINITION. The requests on the monitors, the reaction table and the summary: MONITOR_SET, MONITOR_GET, REACTION_SET,
REACTION_GET, REACTION_ARM, SUMMARY_GET, SUMMARY_CLEAR, NOTIFY_MASK (R101, R102, R132 to R134, R148, R149, R151). -/
namespace Sys2Proof.Machine

/-! ## Monitors (R101, R102) -/

/-- The highest monitor limit (R96). -/
def maxLimit : Nat := 1048575

/-- The checks of MONITOR_SET (R101). -/
def monitorSetChecks (payload : List Byte) : List Check :=
  [ exactLength 14 payload
  , rangeCheck (decide (u8 payload 0 < 12)) 2
  , rangeCheck (decide (u8 payload 1 < 5)) 3
  , rangeCheck (decide (u32 payload 3 ≤ maxLimit)) 5
  , rangeCheck (decide (u32 payload 7 ≤ maxLimit)) 9
  , rangeCheck (within 1 15 (u8 payload 11)) 13
  , rangeCheck (decide (u8 payload 12 < 3)) 14
  , rangeCheck (decide (u8 payload 13 < 2)) 15
  , rangeCheck (decide (u32 payload 3 ≤ u32 payload 7)) 9 ]

/-- The monitor that MONITOR_SET writes: every port INSIDE with count 0 (R101). -/
def describedMonitor (payload : List Byte) : Monitor :=
  { quantity := quantityOf (u8 payload 1), guarded := byteAt payload 2, low := u32 payload 3, high := u32 payload 7
    releaseCount := u8 payload 11, appliesTo := appliesOf (u8 payload 12), alertEnable := u8 payload 13 == 1
    ports := Vector.replicate 8 .inside }

/-- The monitor index at payload byte 0, which a check has found in 0..11. -/
def monitorAt (payload : List Byte) : Fin 12 := Fin.ofNat 12 (u8 payload 0)

/-- MONITOR_SET (R101): ALERT is reassessed (R103). -/
def answerMonitorSet (payload : List Byte) (s : State) : State × Answer :=
  validated (monitorSetChecks payload) s
    ({ s with
       results :=
         { s.results with
           monitors := s.results.monitors.set (monitorAt payload) (describedMonitor payload) }.updateAlert }, [])

/-- A monitor as MONITOR_GET reports it (10.4). -/
def monitorBytes (m : Monitor) : List Byte :=
  le 1 (quantityCode m.quantity) ++ [m.guarded] ++ le 4 m.low ++ le 4 m.high ++ le 1 m.releaseCount ++
    [appliesCode m.appliesTo, flagByte m.alertEnable] ++
    m.ports.toList.flatMap fun t => flagByte t.outside :: le 1 t.insideCount

/-- MONITOR_GET (R102). -/
def answerMonitorGet (payload : List Byte) (s : State) : State × Answer :=
  validated [exactLength 1 payload, rangeCheck (decide (u8 payload 0 < 12)) 2] s
    (s, byteAt payload 0 :: monitorBytes s.results.monitors[monitorAt payload])

/-! ## Reaction entries (R132 to R134) -/

/-- The entry index at payload byte 0, which a check has found in 0..23. -/
def entryAt (payload : List Byte) : EntryId := Fin.ofNat 24 (u8 payload 0)

/-- The kinds that name a condition. -/
def TriggerKind.usesCondition : TriggerKind → Bool
  | .condition => true
  | .dwell => true
  | .monTrip => false
  | .monRelease => false
  | .budget => false
  | .trip => false
  | .giveup => false
  | .linkLost => false

/-- The kinds that name a monitor. -/
def TriggerKind.usesMonitor : TriggerKind → Bool
  | .condition => false
  | .dwell => false
  | .monTrip => true
  | .monRelease => true
  | .budget => false
  | .trip => false
  | .giveup => false
  | .linkLost => false

/-- The actions that have a target. -/
def ReactionAction.usesTarget : ReactionAction → Bool
  | .isolate => true
  | .rejoin => true
  | .spot => true
  | .notify => true
  | .surveyHold => false
  | .surveyResume => false

/-- The actions whose target is a port. -/
def ReactionAction.needsPort : ReactionAction → Bool
  | .isolate => true
  | .rejoin => true
  | .spot => true
  | .notify => false
  | .surveyHold => false
  | .surveyResume => false

/-- A range check of a field that is checked only where it is used (R132, R179). -/
def usedCheck (used passes : Bool) (position : Nat) : Check := rangeCheck (!used || passes) position

/-- The field checks of an entry, one by one and then together (R132, steps 3 and 4 of R182). -/
def reactionFieldChecks (payload : List Byte) : List Check :=
  let kind := triggerOf (u8 payload 2)
  let action := actionOf (u8 payload 8)
  let spot := decide (action = .spot)
  let target := byteAt payload 14
  [ rangeCheck (decide (u8 payload 2 < 8)) 4
  , usedCheck kind.usesCondition (decide (u8 payload 3 < 6)) 5
  , usedCheck (decide (kind = .dwell)) (decide (1 ≤ u16 payload 4)) 6
  , usedCheck kind.usesMonitor (decide (u8 payload 6 < 12)) 8
  , usedCheck (decide (kind ≠ .linkLost)) (decide (u8 payload 7 < 8) || decide (byteAt payload 7 = anyPort)) 9
  , rangeCheck (decide (u8 payload 8 < 6)) 10
  , usedCheck spot (decide (u8 payload 9 < 5)) 11
  , usedCheck spot (decide (u8 payload 10 ≤ 8)) 12
  , usedCheck spot (decide (u8 payload 11 ≤ 8)) 13
  , usedCheck spot (decide (1 ≤ u16 payload 12)) 14
  , usedCheck action.usesTarget
      (decide (u8 payload 14 < 8) || decide (target = sameTarget) || decide (target = deviceTarget)) 16
  , rangeCheck (decide (u8 payload 15 < 2)) 17
  , usedCheck (decide (kind = .condition)) (decide (u8 payload 3 ≠ 0)) 5
  , usedCheck (action.usesTarget && decide (kind = .linkLost)) (decide (target ≠ sameTarget)) 16
  , usedCheck action.needsPort (decide (target ≠ deviceTarget)) 16 ]

/-- The checks of REACTION_SET (R132): the fields of an EMPTY one are not checked. -/
def reactionSetChecks (payload : List Byte) : List Check :=
  [ exactLength 18 payload
  , rangeCheck (decide (u8 payload 0 < 24)) 2
  , rangeCheck (decide (u8 payload 1 < 2)) 3 ] ++
    if u8 payload 1 = 1 then reactionFieldChecks payload else []

/-- The two-byte field at `i`, kept as written. -/
def word16At (payload : List Byte) (i : Nat) : Word16 := BitVec.ofNat 16 (u16 payload i)

/-- The configuration that REACTION_SET writes. -/
def describedReaction (payload : List Byte) : ReactionConfig :=
  { kind := triggerOf (u8 payload 2), condition := byteAt payload 3, threshold := word16At payload 4
    monitor := byteAt payload 6, port := byteAt payload 7, action := actionOf (u8 payload 8)
    spotQuantity := byteAt payload 9, spotE := byteAt payload 10, spotShift := byteAt payload 11
    spotGateTimeout := word16At payload 12, target := byteAt payload 14, repeats := u8 payload 15 == 1
    holdback := word16At payload 16 }

/-- A fresh entry: disarmed, with no firings (R132). -/
def ReactionEntry.fresh (c : ReactionConfig) : ReactionEntry :=
  { config := c, armed := false, fireCount := 0, lastFire := none, lastOutcome := .none, holdbackTimer := none }

/-- REACTION_SET (R132). -/
def answerReactionSet (payload : List Byte) (s : State) : State × Answer :=
  validated (reactionSetChecks payload) s
    ({ s with
       reactions := s.reactions.set (entryAt payload)
         (if u8 payload 1 = 1 then some (.fresh (describedReaction payload)) else none) }, [byteAt payload 0])

/-- The 16 configuration bytes of REACTION_SET, from trigger kind to holdback (10.4). -/
def reactionConfigBytes (c : ReactionConfig) : List Byte :=
  [triggerCode c.kind, c.condition] ++ le 2 c.threshold.toNat ++
    [c.monitor, c.port, actionCode c.action, c.spotQuantity, c.spotE, c.spotShift] ++ le 2 c.spotGateTimeout.toNat ++
    [c.target, flagByte c.repeats] ++ le 2 c.holdback.toNat

/-- The last fire time behind its presence byte (10.4). -/
def lastFireBytes : Option Word32 → List Byte
  | none => le 5 0
  | some t => 1 :: le 4 t.toNat

/-- An entry as REACTION_GET reports it behind the index (R134, 10.4). -/
def reactionBytes : Option ReactionEntry → List Byte
  | none => [0]
  | some e =>
    1 :: (reactionConfigBytes e.config ++ flagByte e.armed :: le 1 e.fireCount ++ lastFireBytes e.lastFire ++
      outcomeCode e.lastOutcome :: le 2 (timeLeft ticksPerMs e.holdbackTimer))

/-- REACTION_GET (R134). -/
def answerReactionGet (payload : List Byte) (s : State) : State × Answer :=
  validated [exactLength 1 payload, rangeCheck (decide (u8 payload 0 < 24)) 2] s
    (s, byteAt payload 0 :: reactionBytes s.reactions[entryAt payload])

/-- The lowest EMPTY entry that the set of REACTION_ARM names. -/
def State.lowestEmptyNamed (s : State) (payload : List Byte) : Option EntryId :=
  (indexes 24).find? fun (i : EntryId) => (u24 payload 0).testBit i.val && s.reactions[i].isNone

/-- The checks of REACTION_ARM (R133): the detail of STATE is the lowest EMPTY index. -/
def reactionArmChecks (payload : List Byte) (s : State) : List Check :=
  [ exactLength 4 payload
  , rangeCheck (decide (u8 payload 3 < 2)) 5
  , match s.lowestEmptyNamed payload with
    | none => stateCheck true 0
    | some i => stateCheck (decide (u8 payload 3 = 0)) i.val ]

/-- The armed field of the named entries is written (R133). -/
def armedEntries (payload : List Byte) (reactions : Vector (Option ReactionEntry) 24) :
    Vector (Option ReactionEntry) 24 :=
  (indexes 24).foldl
    (fun v (i : EntryId) =>
      if (u24 payload 0).testBit i.val then v.set i (v[i].map fun e => { e with armed := u8 payload 3 == 1 }) else v)
    reactions

/-- The set of all armed entries. -/
def armedSet (reactions : Vector (Option ReactionEntry) 24) : Nat :=
  maskOf 24 fun i => if h : i < 24 then reactions[i].any (·.armed) else false

/-- REACTION_ARM (R133). -/
def answerReactionArm (payload : List Byte) (s : State) : State × Answer :=
  let reactions := armedEntries payload s.reactions
  validated (reactionArmChecks payload s) s ({ s with reactions := reactions }, le 3 (armedSet reactions))

/-! ## The summary (R148, R149, R151) -/

/-- The sources that a set names, in the order ports 0..7 then DEVICE. -/
def namedSources (set : Nat) : List SourceId := (indexes 9).filter fun (i : SourceId) => set.testBit i.val

/-- The set-stamps of the SET flags of a source, in ascending flag code. -/
def setStamps (flags : Vector (Option Word32) 11) : List Byte :=
  flags.toList.flatMap fun
    | none => []
    | some stamp => le 4 stamp.toNat

/-- The payload of SUMMARY_GET (10.4). -/
def summaryBytes (u : Summary) (set : Nat) : List Byte :=
  le 4 u.stamp.toNat ++ (indexes 9).flatMap (fun (i : SourceId) => le 2 (u.flagSet i)) ++
    (namedSources set).flatMap fun i => BitVec.ofNat 8 i.val :: setStamps u.flags[i]

/-- SUMMARY_GET (R148): at most four sources. -/
def answerSummaryGet (payload : List Byte) (s : State) : State × Answer :=
  validated
    [ exactLength 2 payload
    , rangeCheck (decide (u16 payload 0 < 512) && decide ((namedSources (u16 payload 0)).length ≤ 4)) 2 ] s
    (s, summaryBytes s.summary (u16 payload 0))

/-- The source code of pair `i` of SUMMARY_CLEAR. -/
def pairSource (payload : List Byte) (i : Nat) : Nat := u8 payload (5 + 3 * i)

/-- The flag set of pair `i` of SUMMARY_CLEAR. -/
def pairFlags (payload : List Byte) (i : Nat) : Nat := u16 payload (6 + 3 * i)

/-- The length check of SUMMARY_CLEAR, by its own pair count (R179). -/
def summaryClearLength (payload : List Byte) : Check :=
  lengthCheck
    (decide (5 ≤ payload.length) && (!decide (u8 payload 4 ≤ 9) || payload.length == 5 + 3 * u8 payload 4)) payload

/-- The joint checks of pair `i` (R149, R181): its source was not named before, and has every flag of its set. -/
def pairChecks (payload : List Byte) (i : Nat) : List Check :=
  [ rangeCheck ((List.range i).all fun k => decide (pairSource payload k ≠ pairSource payload i)) (7 + 3 * i)
  , rangeCheck (decide (pairFlags payload i < 2 ^ flagCount (sourceOf (pairSource payload i)))) (8 + 3 * i) ]

/-- The checks of SUMMARY_CLEAR (R149, R182). -/
def summaryClearChecks (payload : List Byte) (s : State) : List Check :=
  let pairs := List.range (u8 payload 4)
  summaryClearLength payload :: rangeCheck (decide (u8 payload 4 ≤ 9)) 6 ::
    (pairs.map fun i => rangeCheck (decide (pairSource payload i < 9)) (7 + 3 * i)) ++
    pairs.flatMap (pairChecks payload) ++ [rangeCheck (decide (u32 payload 0 ≤ s.summary.stamp.toNat)) 2]

/-- The summary after the pairs' flags are cleared with stamp `S` (R149). -/
def Summary.cleared (payload : List Byte) (u : Summary) : Summary :=
  { u with
    flags := (List.range (u8 payload 4)).foldl
      (fun v i =>
        let source := sourceOf (pairSource payload i)
        v.set source (clearFlags (BitVec.ofNat 32 (u32 payload 0)) (pairFlags payload i) v[source])) u.flags }

/-- The reply of SUMMARY_CLEAR: the stamp, and for each pair its source and the named flags that stayed SET (R149). -/
def survivorBytes (payload : List Byte) (u : Summary) : List Byte :=
  le 4 u.stamp.toNat ++ (List.range (u8 payload 4)).flatMap fun i =>
    byteAt payload (5 + 3 * i) :: le 2 (pairFlags payload i &&& u.flagSet (sourceOf (pairSource payload i)))

/-- SUMMARY_CLEAR (R149). -/
def answerSummaryClear (payload : List Byte) (s : State) : State × Answer :=
  let u := s.summary.cleared payload
  validated (summaryClearChecks payload s) s ({ s with summary := u }, survivorBytes payload u)

/-- The checks of NOTIFY_MASK (R151): with WRITE the set holds flags of the source other than NOTE. -/
def notifyMaskChecks (payload : List Byte) : List Check :=
  [ exactLength 4 payload
  , rangeCheck (decide (u8 payload 0 < 9)) 2
  , rangeCheck (decide (u8 payload 1 < 2)) 3
  , usedCheck (u8 payload 1 == 1) (decide (u16 payload 2 < 2 ^ (noteFlag (sourceOf (u8 payload 0))).val)) 4 ]

/-- The summary after NOTIFY_MASK: WRITE replaces the mask, KEEP leaves it. -/
def Summary.masked (payload : List Byte) (u : Summary) : Summary :=
  if u8 payload 1 = 1 then
    { u with masks := u.masks.set (sourceOf (u8 payload 0)) (BitVec.ofNat 16 (u16 payload 2)) }
  else u

/-- NOTIFY_MASK (R151). -/
def answerNotifyMask (payload : List Byte) (s : State) : State × Answer :=
  let u := s.summary.masked payload
  validated (notifyMaskChecks payload) s
    ({ s with summary := u }, byteAt payload 0 :: le 2 u.masks[sourceOf (u8 payload 0)].toNat)

end Sys2Proof.Machine
end

