-- ==== Sys2Proof/Machine/Requests.lean ====
section
/-! DEFINITION. The requests HELLO, STATUS and RESET, and the execution of a request of any KIND: cache, reply place,
checks and reply (R160 to R164, R172 to R174). -/
namespace Sys2Proof.Machine

/-! ## HELLO, STATUS, RESET -/

/-- The checks of HELLO (10.3). -/
def helloChecks (payload : List Byte) : List Check :=
  [ exactLength 4 payload
  , rangeCheck (within 1 4 (u8 payload 0)) 2
  , rangeCheck (decide (1 ≤ u8 payload 1)) 3
  , rangeCheck (within 1 7 (u8 payload 2)) 4 ]

/-- The session as an accepted HELLO opens it: steps 3 to 5 of R164. -/
def openedSession (payload : List Byte) : Session :=
  let v : Session :=
    { state := .opened, window := u8 payload 0, ackTimeout := u8 payload 1, retransmitLimit := u8 payload 2
      watchdogPeriod := u8 payload 3, nextSeq := 0, retryCount := 0, ackTimer := none, watchdog := none
      retransmit := [] }
  { v with watchdog := v.watchdogStart }

/-- Steps 1 to 5 of R164. -/
def State.openSession (s : State) (payload : List Byte) : State :=
  (s.modLink fun l => { l with cache := [] }).returnSent.modSession fun _ => openedSession payload

/-- The identity of the part: vendor code, part code, silicon revision, port count (R164, 10.4). -/
def identityBytes : List Byte := [0xB5] ++ le 2 0x2E08 ++ [0x02, 0x08]

/-- HELLO (R164). -/
def answerHello (payload : List Byte) (s : State) : State × Answer :=
  let opened := s.openSession payload
  validated (helloChecks payload) s (opened, identityBytes ++ sessionParamBytes opened.link.session)

/-- STATUS (R172). -/
def answerStatus (payload : List Byte) (s : State) : State × Answer :=
  validated [exactLength 0 payload] s (s, s.statusBytes)

/-- RESET (R173): the link enters reset pending. -/
def answerReset (payload : List Byte) (s : State) : State × Answer :=
  validated [exactLength 0 payload] s (s.modLink fun l => { l with resetPending := true }, [])

/-! ## Execution (R161, R162) -/

/-- The block that owns a KIND checks and carries out the request (step 3 of R161); any other KIND is refused with
UNKNOWN_KIND (R160, R182). -/
def answerRequest (kind tag : Byte) (payload : List Byte) (s : State) : State × Answer :=
  match kind.toNat with
  | 0x01 => answerHello payload s
  | 0x02 => answerStatus payload s
  | 0x03 => answerReset payload s
  | 0x10 => answerPortSet payload s
  | 0x11 => answerPortGet payload s
  | 0x12 => answerPortJoin payload s
  | 0x13 => answerPortIsolate payload s
  | 0x14 => answerCounts payload s
  | 0x20 => answerSurveyPut payload s
  | 0x21 => answerSurveyGet payload s
  | 0x22 => answerSurveyRun payload s
  | 0x23 => answerSurveyHold payload s
  | 0x24 => answerSurveyResume payload s
  | 0x25 => answerSurveyStop payload s
  | 0x26 => answerSpot tag payload s
  | 0x27 => answerSpotCancel payload s
  | 0x30 => answerMonitorSet payload s
  | 0x31 => answerMonitorGet payload s
  | 0x38 => answerReactionSet payload s
  | 0x39 => answerReactionGet payload s
  | 0x3A => answerReactionArm payload s
  | 0x40 => answerSummaryGet payload s
  | 0x41 => answerSummaryClear payload s
  | 0x42 => answerNotifyMask payload s
  | _ => (s, .refused .unknownKind 0)

/-- A reply body (10.4). -/
def replyBody (kind tag : Byte) : Answer → List Byte
  | .ok payload => 0x80 :: tag :: kind :: payload
  | .refused reason detail => [0x81, tag, kind, reasonCode reason, detail]

/-- The reply queue's places (R161). -/
def replyPlaces : Nat := 4

/-- The cached reply to a tag and KIND (R162); tag 0 is never answered from the cache. -/
def Link.cached (l : Link) (kind tag : Byte) : Option (List Byte) :=
  if tag = 0 then none
  else (l.cache.find? fun c => decide (c.tag = tag) && decide (c.kind = kind)).map (·.body)

/-- A reply joins the tail of the reply queue. -/
def Link.queueReply (body : List Byte) (l : Link) : Link := { l with replies := l.replies ++ [body] }

/-- The oldest entry leaves a cache of more than four (R162). -/
def trimCache : List CacheEntry → List CacheEntry
  | [] => []
  | c :: rest => if 4 < (c :: rest).length then rest else c :: rest

/-- The reply to a request whose tag is not 0 enters the cache as the newest entry (R162). -/
def Link.cacheReply (kind tag : Byte) (body : List Byte) (l : Link) : Link :=
  if tag = 0 then l else { l with cache := trimCache (l.cache ++ [{ tag := tag, kind := kind, body := body }]) }

/-- The reply to an executed request joins the reply queue and the cache (step 4 of R161). -/
def State.reply (s : State) (kind tag : Byte) (answer : Answer) : State :=
  s.modLink fun l => (l.queueReply (replyBody kind tag answer)).cacheReply kind tag (replyBody kind tag answer)

/-- A request executed (R161): answered from the cache, dropped for want of a reply place, or carried out. -/
def State.execute (s : State) (kind tag : Byte) (payload : List Byte) : State :=
  match s.link.cached kind tag with
  | some body =>
    if s.link.replies.length < replyPlaces then s.modLink (Link.queueReply body) else s.modLink Link.countDiscard
  | none =>
    if s.link.replies.length < replyPlaces then
      let (s, answer) := answerRequest kind tag payload s
      s.reply kind tag answer
    else s.modLink Link.countDiscard

/-! ## A valid frame (R160, R174) -/

/-- The hold list's places (R174). -/
def holdPlaces : Nat := 4

/-- A request frame joins the hold list, or is dropped and counted where four are held (R174). -/
def Link.holdFrame (f : HeldFrame) (l : Link) : Link :=
  if l.hold.length < holdPlaces then { l with hold := l.hold ++ [f] } else l.countDiscard

/-- A valid request frame is taken: it restarts the watchdog, and is held during reset pending and executed otherwise
(R160, R165, R174). The receiver hunts again (R158; log 10). -/
def State.takeRequest (s : State) (kind tag : Byte) (payload : List Byte) : State :=
  let s := s.frameArrives
  if s.link.resetPending then s.modLink (Link.holdFrame { kind := kind, tag := tag, payload := payload })
  else s.execute kind tag payload

/-- Held requests executed in arrival order; those behind a held RESET stay held (R174). -/
def executeHeld : List HeldFrame → State → State
  | [], s => s
  | f :: rest, s =>
    if s.link.resetPending then s.modLink fun l => { l with hold := f :: rest }
    else executeHeld rest (s.execute f.kind f.tag f.payload)

end Sys2Proof.Machine
end

