-- ==== Sys2Proof/Machine/Receiver.lean ====
section
/-! DEFINITION. The receiver (R158 to R160): one received byte at a time. -/
namespace Sys2Proof.Machine

/-- The SYNC byte (10.1). -/
def syncByte : Byte := 0xC5

/-- The KIND of ACK (10.3). -/
def ackKind : Byte := 0x70

/-- The gap timer's full time, 5 ms (R158). -/
def gapTicks : Nat := 5 * ticksPerMs

/-- A valid frame is handed on by its KIND (R160). -/
def State.takeFrame (s : State) (body : List Byte) : State :=
  match body with
  | kind :: second :: payload => if kind = ackKind then s.takeAck second payload else s.takeRequest kind second payload
  | [_] => s
  | [] => s

/-- What a byte does to the receiver. -/
inductive RxEvent where
  | onward (rx : Receiver)
  | discard
  | valid (body : List Byte)
  deriving DecidableEq, Repr

/-- The check bytes match the frame check over LEN and the body, the first as the high byte (R158). -/
def Receiver.checkMatches (rx : Receiver) : Bool :=
  match rx.check with
  | [hi, lo] => decide (checkValue hi lo = frameCheck (BitVec.ofNat 8 rx.len :: rx.body))
  | _ => false

/-- HUNT (R158): the gap timer starts with the frame (log 13). -/
def Receiver.hunt (byte : Byte) (framingOk : Bool) : RxEvent :=
  if framingOk && decide (byte = syncByte) then
    .onward { state := .length, len := 0, body := [], check := [], gap := some gapTicks }
  else .onward .hunting

/-- LENGTH (R158, R159). -/
def Receiver.takeLength (byte : Byte) (rx : Receiver) : RxEvent :=
  if 2 ≤ byte.toNat ∧ byte.toNat ≤ 240 then
    .onward { rx with state := .body, len := byte.toNat, gap := some gapTicks }
  else .discard

/-- BODY (R158). -/
def Receiver.takeBody (byte : Byte) (rx : Receiver) : RxEvent :=
  let body := rx.body ++ [byte]
  .onward { rx with body := body, state := if body.length = rx.len then .check else .body, gap := some gapTicks }

/-- CHECK (R158, R159). -/
def Receiver.takeCheck (byte : Byte) (rx : Receiver) : RxEvent :=
  let rx := { rx with check := rx.check ++ [byte], gap := some gapTicks }
  if rx.check.length < 2 then .onward rx else if rx.checkMatches then .valid rx.body else .discard

/-- A received byte in any state; a framing error outside HUNT is a discard (R158, R159). -/
def Receiver.takeByte (byte : Byte) (framingOk : Bool) (rx : Receiver) : RxEvent :=
  match rx.state with
  | .hunt => Receiver.hunt byte framingOk
  | .length => if framingOk then rx.takeLength byte else .discard
  | .body => if framingOk then rx.takeBody byte else .discard
  | .check => if framingOk then rx.takeCheck byte else .discard

/-- A byte received on RXD; the frame it completes is taken, or discarded, in the same step (log 12). -/
def State.receiveByte (s : State) (byte : Byte) (framingOk : Bool) : State :=
  match s.link.rx.takeByte byte framingOk with
  | .onward rx => s.modLink fun l => { l with rx := rx }
  | .discard => s.modLink Link.discardFrame
  | .valid body => s.takeFrame body

end Sys2Proof.Machine
end

