-- ==== Sys2Proof/Machine/Resets.lean ====
section
/-! DEFINITION. The soft reset of every block (R17, R39, R62, R85, R95, R104, R126, R144, R155, R173 to R175), and the
frame sent that brings it about. -/
namespace Sys2Proof.Machine

/-- A port switch record at soft reset (table of R126). -/
def SwitchRec.softReset (q : Params) (w : SwitchRec) : SwitchRec :=
  match w.state with
  | .isolated => w
  | .holdoff => w
  | .probing => { w with slot := .empty, settle := some q.settleTicks }
  | .joined => w

/-- A port at soft reset (R17, R39, R126). -/
def Port.softReset (now : Word32) (r : Port) : Port :=
  let closed := r.switch.state.closed
  { r with
    tap := r.tap.softReset closed
    cond := r.cond.softReset now closed r.powerGood r.params
    switch := r.switch.softReset r.params }

/-- The survey at soft reset (R85): the list and the run parameters are kept. -/
def Survey.softReset (now : Word32) (v : Survey) : Survey :=
  { v with
    state := .stopped, cursor := 0, inPass := false, passNumber := 0, passStart := now, pace := none, floorLeft := 0
    tickPending := false, lost := 0 }

/-- A reaction entry at soft reset (R144). -/
def ReactionEntry.softReset (e : ReactionEntry) : ReactionEntry :=
  { e with fireCount := 0, lastFire := none, lastOutcome := .none, holdbackTimer := none }

/-- The summary unit at soft reset (R155). -/
def Summary.softReset (u : Summary) : Summary := { u with flags := Summary.noFlags, stamp := 0, events := [] }

/-- The session at soft reset: CLOSED with its parameters kept (R163, R175). -/
def Session.softReset (v : Session) : Session :=
  { v with
    state := .closed, nextSeq := 0, retryCount := 0, ackTimer := none, watchdog := none, retransmit := [] }

/-- The host link at soft reset (table of R175); the hold list is emptied by its execution. -/
def Link.softReset (l : Link) : Link :=
  { l with
    discarded := 0, replies := [], cache := [], hold := [], resetPending := false
    session := l.session.softReset, line := none }

/-- Every block at soft reset. -/
def State.resetBlocks (s : State) : State :=
  { s with
    ports := vmap (Port.softReset s.timebase) s.ports
    engine := .idle
    survey := s.survey.softReset s.timebase
    spots := []
    results := s.results.softReset
    reactions := vmap (Option.map ReactionEntry.softReset) s.reactions
    summary := s.summary.softReset
    link := s.link.softReset }

/-- The soft reset takes effect, and the held requests are executed (R173, R174). -/
def State.softReset (s : State) : State := executeHeld s.link.hold s.resetBlocks

/-- A reply body is REPLY_OK to RESET. -/
def isResetReply (body : List Byte) : Bool := decide (byteAt body 0 = 0x80) && decide (byteAt body 2 = 0x03)

/-- The reply on the line is the one whose end brings the pending soft reset (R173). -/
def Link.resetReplyOnLine (l : Link) : Bool :=
  l.resetPending &&
    match l.line, l.replies with
    | some f, body :: _ => !f.report && isResetReply body
    | some _, [] => false
    | none, _ => false

/-- The last byte of the frame on the line has left (R161, R167, R169). The RESET reply brings the soft reset; a reply
leaves the queue; a report starts the ack timer. -/
def State.frameLeaves (s : State) (f : LineFrame) : State :=
  if s.link.resetReplyOnLine then s.softReset
  else if f.report then
    (s.modSession fun v => { v with ackTimer := s.ackTimerStart }).modLink fun l => { l with line := none }
  else s.modLink fun l => { l with line := none, replies := l.replies.tail }

end Sys2Proof.Machine
end

