-- ==== Sys2Proof/Machine/LinkCommands.lean ====
section
/-! DEFINITION. The resets, the holdback expiry, the events of the host link, and the request frames: one meaning for
each KIND. -/
namespace Sys2Proof.Machine

/-! ## Resets -/

/-- FULL_RESET (R17, R38, R63, R85, R95, R104, R125, R144, R155, R175): every block at its full reset value under the
straps; the power-sense inputs, the line levels and the queue of commands are outside the part's blocks (log 30). -/
def execFullReset (straps : Straps) (s : State) : Host.Outcome State Fault Refusal :=
  .next
    { State.atReset straps (vmap (·.powerGood) s.ports) (vmap (·.line) s.ports) with
      pending := s.pending }

/-- SOFT_RESET (R173): the pending reset takes effect as the RESET reply on the line ends. -/
def execSoftReset (s : State) : Host.Outcome State Fault Refusal :=
  if s.link.resetReplyOnLine then s.softReset.answered else .next s

/-! ## Reaction unit -/

/-- The holdback timer stops (R137). -/
def ReactionEntry.holdbackEnds (e : ReactionEntry) : ReactionEntry := { e with holdbackTimer := none }

/-- HOLDBACK_EXPIRY (R137). -/
def execHoldbackExpiry (entry : EntryId) (s : State) : Host.Outcome State Fault Refusal :=
  match s.reactions[entry].bind (·.holdbackTimer) with
  | none => .next s
  | some left =>
    let s := s.elapse left
    .next { s with reactions := s.reactions.set entry (s.reactions[entry].map ReactionEntry.holdbackEnds) }

/-! ## Host link events -/

/-- BYTE_RECEIVED (R158 to R160). -/
def execByteReceived (byte : Byte) (framingOk : Bool) (s : State) : Host.Outcome State Fault Refusal :=
  (s.receiveByte byte framingOk).answered

/-- GAP_TIMER_EXPIRY (R158, R159): the gap timer runs in LENGTH, BODY and CHECK. -/
def execGapTimerExpiry (s : State) : Host.Outcome State Fault Refusal :=
  match s.link.rx.state, s.link.rx.gap with
  | .hunt, _ => .next s
  | .length, some left => .next ((s.elapse left).modLink Link.discardFrame)
  | .body, some left => .next ((s.elapse left).modLink Link.discardFrame)
  | .check, some left => .next ((s.elapse left).modLink Link.discardFrame)
  | .length, none => .next s
  | .body, none => .next s
  | .check, none => .next s

/-- FRAME_DISCARD (R159): an invalid frame is thrown away (log 11). -/
def execFrameDiscard (s : State) : Host.Outcome State Fault Refusal := .next (s.modLink Link.discardFrame)

/-- FRAME_SENT (R161, R167 to R169, R173): the frame on the line ends, and the arbiter chooses the next. -/
def execFrameSent (s : State) : Host.Outcome State Fault Refusal :=
  match s.link.line with
  | none => .next s
  | some f => (s.frameLeaves f).answered

/-- ACK_TIMER_EXPIRY (R169, R171): the ack timer runs only in OPEN. -/
def execAckTimerExpiry (s : State) : Host.Outcome State Fault Refusal :=
  match s.link.session.state, s.link.session.ackTimer with
  | .opened, some left => (s.elapse left).ackTimeoutExpires.answered
  | .opened, none => .next s
  | .closed, _ => .next s
  | .lost, _ => .next s

/-- LINK_WATCHDOG_EXPIRY (R165, R166): the watchdog runs only in OPEN. -/
def execLinkWatchdogExpiry (s : State) : Host.Outcome State Fault Refusal :=
  match s.link.session.state, s.link.session.watchdog with
  | .opened, some left => (s.elapse left).enterLost.answered
  | .opened, none => .next s
  | .closed, _ => .next s
  | .lost, _ => .next s

/-- ACK (R170). -/
def execAck (seq : Byte) (payload : List Byte) (s : State) : Host.Outcome State Fault Refusal :=
  (s.takeAck seq payload).answered

/-! ## Request frames (R160, R161) -/

/-- A request frame of a KIND, taken whole. -/
def State.request (s : State) (kind tag : Byte) (payload : List Byte) : Host.Outcome State Fault Refusal :=
  (s.takeRequest kind tag payload).answered

/-- UNKNOWN_KIND (R160): a frame of any other KIND is handled as a request; ACK and request kinds are no unknown
kinds. -/
def execUnknownKind (kind tag : Byte) (payload : List Byte) (s : State) : Host.Outcome State Fault Refusal :=
  (s.takeFrame (kind :: tag :: payload)).answered

/-- HELLO (R164). -/
def execHello (tag : Byte) (payload : List Byte) (s : State) : Host.Outcome State Fault Refusal :=
  s.request 0x01 tag payload

/-- STATUS (R172). -/
def execStatus (tag : Byte) (payload : List Byte) (s : State) : Host.Outcome State Fault Refusal :=
  s.request 0x02 tag payload

/-- RESET (R173). -/
def execReset (tag : Byte) (payload : List Byte) (s : State) : Host.Outcome State Fault Refusal :=
  s.request 0x03 tag payload

/-- PORT_SET (R35). -/
def execPortSet (tag : Byte) (payload : List Byte) (s : State) : Host.Outcome State Fault Refusal :=
  s.request 0x10 tag payload

/-- PORT_GET (R37). -/
def execPortGet (tag : Byte) (payload : List Byte) (s : State) : Host.Outcome State Fault Refusal :=
  s.request 0x11 tag payload

/-- PORT_JOIN (R117). -/
def execPortJoin (tag : Byte) (payload : List Byte) (s : State) : Host.Outcome State Fault Refusal :=
  s.request 0x12 tag payload

/-- PORT_ISOLATE (R118). -/
def execPortIsolate (tag : Byte) (payload : List Byte) (s : State) : Host.Outcome State Fault Refusal :=
  s.request 0x13 tag payload

/-- COUNTS (R16). -/
def execCounts (tag : Byte) (payload : List Byte) (s : State) : Host.Outcome State Fault Refusal :=
  s.request 0x14 tag payload

/-- SURVEY_PUT (R66). -/
def execSurveyPut (tag : Byte) (payload : List Byte) (s : State) : Host.Outcome State Fault Refusal :=
  s.request 0x20 tag payload

/-- SURVEY_GET (R67). -/
def execSurveyGet (tag : Byte) (payload : List Byte) (s : State) : Host.Outcome State Fault Refusal :=
  s.request 0x21 tag payload

/-- SURVEY_RUN (R68). -/
def execSurveyRun (tag : Byte) (payload : List Byte) (s : State) : Host.Outcome State Fault Refusal :=
  s.request 0x22 tag payload

/-- SURVEY_HOLD (R69). -/
def execSurveyHold (tag : Byte) (payload : List Byte) (s : State) : Host.Outcome State Fault Refusal :=
  s.request 0x23 tag payload

/-- SURVEY_RESUME (R70). -/
def execSurveyResume (tag : Byte) (payload : List Byte) (s : State) : Host.Outcome State Fault Refusal :=
  s.request 0x24 tag payload

/-- SURVEY_STOP (R71). -/
def execSurveyStop (tag : Byte) (payload : List Byte) (s : State) : Host.Outcome State Fault Refusal :=
  s.request 0x25 tag payload

/-- SPOT (R81). -/
def execSpot (tag : Byte) (payload : List Byte) (s : State) : Host.Outcome State Fault Refusal :=
  s.request 0x26 tag payload

/-- SPOT_CANCEL (R84). -/
def execSpotCancel (tag : Byte) (payload : List Byte) (s : State) : Host.Outcome State Fault Refusal :=
  s.request 0x27 tag payload

/-- MONITOR_SET (R101). -/
def execMonitorSet (tag : Byte) (payload : List Byte) (s : State) : Host.Outcome State Fault Refusal :=
  s.request 0x30 tag payload

/-- MONITOR_GET (R102). -/
def execMonitorGet (tag : Byte) (payload : List Byte) (s : State) : Host.Outcome State Fault Refusal :=
  s.request 0x31 tag payload

/-- REACTION_SET (R132). -/
def execReactionSet (tag : Byte) (payload : List Byte) (s : State) : Host.Outcome State Fault Refusal :=
  s.request 0x38 tag payload

/-- REACTION_GET (R134). -/
def execReactionGet (tag : Byte) (payload : List Byte) (s : State) : Host.Outcome State Fault Refusal :=
  s.request 0x39 tag payload

/-- REACTION_ARM (R133). -/
def execReactionArm (tag : Byte) (payload : List Byte) (s : State) : Host.Outcome State Fault Refusal :=
  s.request 0x3A tag payload

/-- SUMMARY_GET (R148). -/
def execSummaryGet (tag : Byte) (payload : List Byte) (s : State) : Host.Outcome State Fault Refusal :=
  s.request 0x40 tag payload

/-- SUMMARY_CLEAR (R149). -/
def execSummaryClear (tag : Byte) (payload : List Byte) (s : State) : Host.Outcome State Fault Refusal :=
  s.request 0x41 tag payload

/-- NOTIFY_MASK (R151). -/
def execNotifyMask (tag : Byte) (payload : List Byte) (s : State) : Host.Outcome State Fault Refusal :=
  s.request 0x42 tag payload

end Sys2Proof.Machine
end

