-- ==== Sys2Proof/Machine/SwitchCommands.lean ====
section
/-! DEFINITION. The events of a port switch: OVERCURRENT_TRIP, HOLD_TIMER_EXPIRY, SETTLE_TIMER_EXPIRY (R108 to R111). -/
namespace Sys2Proof.Machine

/-- OVERCURRENT_TRIP (R108, R109, R116). -/
def execOvercurrentTrip (p : PortId) (s : State) : Host.Outcome State Fault Refusal := (s.overcurrent p).answered

/-- HOLD_TIMER_EXPIRY (R110): the hold timer runs while the port is HOLDOFF. -/
def execHoldTimerExpiry (p : PortId) (s : State) : Host.Outcome State Fault Refusal :=
  match (s.port p).switch.state, (s.port p).switch.hold with
  | .holdoff, some left => .next ((s.elapse left).holdExpires p)
  | .holdoff, none => .next s
  | .isolated, _ => .next s
  | .probing, _ => .next s
  | .joined, _ => .next s

/-- A settle timer that has run out fills the probe slot of its PROBING port (R111). -/
def SwitchRec.settled (w : SwitchRec) : SwitchRec :=
  if w.state = .probing ∧ w.settle = some 0 then { w with settle := none, slot := .waiting } else w

/-- Every settle timer that has run out fills its probe slot, so that slots that fall occupied together stand together
before the engine's choice (R54, R125). -/
def State.fillSlots (s : State) : State :=
  { s with ports := vmap (fun r => { r with switch := r.switch.settled }) s.ports }

/-- SETTLE_TIMER_EXPIRY (R111): the settle timer runs while the port is PROBING. The probe slot becomes WAITING, with
those of all settle timers that end at the same moment (R54; log 35), and the engine is told. -/
def execSettleTimerExpiry (p : PortId) (s : State) : Host.Outcome State Fault Refusal :=
  match (s.port p).switch.state, (s.port p).switch.settle with
  | .probing, some left =>
    (((s.elapse left).fillSlots).wakeEngine).answered
  | .probing, none => .next s
  | .isolated, _ => .next s
  | .holdoff, _ => .next s
  | .joined, _ => .next s

end Sys2Proof.Machine
end

