-- ==== Sys2Proof/Machine/Dispatch.lean ====
section
/-! DEFINITION. The meaning of every command. -/
namespace Sys2Proof.Machine

def exec (i : Instr) (s : State) : Host.Outcome State Fault Refusal :=
  match i with
  | .fullReset straps => Sys2Proof.Machine.execFullReset straps s
  | .softReset => Sys2Proof.Machine.execSoftReset s
  | .lineTransition p source target offset => Sys2Proof.Machine.execLineTransition p source target offset s
  | .symbolDelivery p first second code => Sys2Proof.Machine.execSymbolDelivery p first second code s
  | .powerSenseChange p good => Sys2Proof.Machine.execPowerSenseChange p good s
  | .senseTimerExpiry p => Sys2Proof.Machine.execSenseTimerExpiry p s
  | .drainExpiry p => Sys2Proof.Machine.execDrainExpiry p s
  | .budgetWindowExpiry p => Sys2Proof.Machine.execBudgetWindowExpiry p s
  | .dwellStep p => Sys2Proof.Machine.execDwellStep p s
  | .overcurrentTrip p => Sys2Proof.Machine.execOvercurrentTrip p s
  | .holdTimerExpiry p => Sys2Proof.Machine.execHoldTimerExpiry p s
  | .settleTimerExpiry p => Sys2Proof.Machine.execSettleTimerExpiry p s
  | .jobStart => Sys2Proof.Machine.execJobStart s
  | .engineSettleEnd => Sys2Proof.Machine.execEngineSettleEnd s
  | .sampleEnd code => Sys2Proof.Machine.execSampleEnd code s
  | .gateTimeout => Sys2Proof.Machine.execGateTimeout s
  | .passFloorExpiry => Sys2Proof.Machine.execPassFloorExpiry s
  | .paceTick => Sys2Proof.Machine.execPaceTick s
  | .holdbackExpiry entry => Sys2Proof.Machine.execHoldbackExpiry entry s
  | .gapTimerExpiry => Sys2Proof.Machine.execGapTimerExpiry s
  | .frameDiscard => Sys2Proof.Machine.execFrameDiscard s
  | .unknownKind kind tag payload => Sys2Proof.Machine.execUnknownKind kind tag payload s
  | .hello tag payload => Sys2Proof.Machine.execHello tag payload s
  | .status tag payload => Sys2Proof.Machine.execStatus tag payload s
  | .reset tag payload => Sys2Proof.Machine.execReset tag payload s
  | .portSet tag payload => Sys2Proof.Machine.execPortSet tag payload s
  | .portGet tag payload => Sys2Proof.Machine.execPortGet tag payload s
  | .portJoin tag payload => Sys2Proof.Machine.execPortJoin tag payload s
  | .portIsolate tag payload => Sys2Proof.Machine.execPortIsolate tag payload s
  | .counts tag payload => Sys2Proof.Machine.execCounts tag payload s
  | .surveyPut tag payload => Sys2Proof.Machine.execSurveyPut tag payload s
  | .surveyGet tag payload => Sys2Proof.Machine.execSurveyGet tag payload s
  | .surveyRun tag payload => Sys2Proof.Machine.execSurveyRun tag payload s
  | .surveyHold tag payload => Sys2Proof.Machine.execSurveyHold tag payload s
  | .surveyResume tag payload => Sys2Proof.Machine.execSurveyResume tag payload s
  | .surveyStop tag payload => Sys2Proof.Machine.execSurveyStop tag payload s
  | .spot tag payload => Sys2Proof.Machine.execSpot tag payload s
  | .spotCancel tag payload => Sys2Proof.Machine.execSpotCancel tag payload s
  | .monitorSet tag payload => Sys2Proof.Machine.execMonitorSet tag payload s
  | .monitorGet tag payload => Sys2Proof.Machine.execMonitorGet tag payload s
  | .reactionSet tag payload => Sys2Proof.Machine.execReactionSet tag payload s
  | .reactionGet tag payload => Sys2Proof.Machine.execReactionGet tag payload s
  | .reactionArm tag payload => Sys2Proof.Machine.execReactionArm tag payload s
  | .summaryGet tag payload => Sys2Proof.Machine.execSummaryGet tag payload s
  | .summaryClear tag payload => Sys2Proof.Machine.execSummaryClear tag payload s
  | .notifyMask tag payload => Sys2Proof.Machine.execNotifyMask tag payload s
  | .ack seq payload => Sys2Proof.Machine.execAck seq payload s
  | .frameSent => Sys2Proof.Machine.execFrameSent s
  | .ackTimerExpiry => Sys2Proof.Machine.execAckTimerExpiry s
  | .linkWatchdogExpiry => Sys2Proof.Machine.execLinkWatchdogExpiry s
  | .byteReceived byte framingOk => Sys2Proof.Machine.execByteReceived byte framingOk s

end Sys2Proof.Machine
end

