-- ==== Sys2Proof/Safety.lean ====
section
/-! DEFINITION. The laws that the manual says the part keeps, as predicates of a state, and the words the statements are
written in: which part of the state a command leaves alone, and when a request is executed. -/
namespace Sys2Proof.Machine

/-! ## The sequencer -/

/-- No pass ends now: no survey job stands before its end (R75). -/
abbrev State.NoPassEnd (s : State) : Prop := s.passEndDue = false

/-- The entry `d` in slot `i` is the next of the pass: the first enabled one at or after the cursor (R73). -/
abbrev Survey.NextIs (v : Survey) (i : SlotId) (d : SurveyEntry) : Prop :=
  v.slots[i] = some d ∧ d.enabled = true ∧ v.cursor ≤ i.val ∧
    ∀ k : SlotId, v.cursor ≤ k.val → k.val < i.val → ∀ f, v.slots[k] = some f → f.enabled = false

/-! ## Words of the statements -/

/-- A port as a request or a reply names it. -/
def portByte (p : PortId) : Byte := BitVec.ofNat 8 p.val

/-- The symbols of a byte, most significant bit first, ONE for 1 and ZERO for 0 (1.3). -/
def byteSymbols (b : Byte) : List SymClass :=
  [7, 6, 5, 4, 3, 2, 1, 0].map fun i => if b.getLsbD i then .one else .zero

/-- The symbols of a segment frame (1.3). -/
def frameSymbols (preamble : Nat) (body : List Byte) : List SymClass :=
  List.replicate preamble .one ++ startDelimiter ++ body.flatMap byteSymbols ++ endDelimiter

/-- The recogniser over several classes, with what each gives besides (R12). -/
def runRecogniser (limit : Nat) : List SymClass → Recogniser → Recogniser × List Indication
  | [], r => (r, [])
  | c :: cs, r =>
    let (r, i) := recogStep limit c r
    let (r, is) := runRecogniser limit cs r
    (r, i :: is)

/-- The bytes of a frame received one after another, each with a good stop bit. -/
def State.receiveBytes (s : State) (bytes : List Byte) : Host.Outcome State Fault Refusal :=
  bytes.foldl
    (fun o b =>
      match o with
      | .next t => exec (.byteReceived b true) t
      | .fault r => .fault r
      | .refused r => .refused r) (.next s)

/-- A port whose switch has opened at time `now` (R6, R28, R29): `r` is the port before, `w` its switch record after. -/
def Port.opened (now : Word32) (w : SwitchRec) (r : Port) : Port :=
  { r with
    switch := w
    tap := { r.tap with
      position := 0, midHalf := false, first := .fresh, second := .fresh, recog := .hunting, trafficGate := false }
    cond := { r.cond with
      condition := .dark, cause := .switched, entryTime := now, dwell := 0, dwellLeft := 20000, noiseLevel := 0
      drain := none, activeRun := 0, quietRun := 0, sense := none, quietGate := false } }

/-- A port whose switch has closed at time `now` (R6, R23, R29). -/
def Port.joining (now : Word32) (w : SwitchRec) (r : Port) : Port :=
  { r with
    switch := w
    tap := { r.tap with timing := .free, position := 0, midHalf := false, first := .fresh, second := .fresh }
    cond := { r.cond with
      condition := .unseen, cause := .observed, entryTime := now, dwell := 0, dwellLeft := 20000
      sense := if r.powerGood then none else some 0, quietGate := false } }

/-- The settle time of a quantity in half microseconds (table of 3.1). -/
def settleTimeOf : Quantity → Nat
  | .vseg => 100
  | .iseg => 100
  | .sigamp => 0
  | .noise => 100
  | .screen => 4000

/-- A job that enters SETTLING (R44, R45, R60); SIGAMP leaves it at once, for SAMPLING on an open gate and GATED on a
closed one. -/
def Job.settling (gateOpen : Bool) (j : Job) : Job :=
  { j with
    phase := if j.quantity = .sigamp then (if gateOpen then .sampling else .gated) else .settling
    settleLeft := settleTimeOf j.quantity
    sample := .idle }

/-- The engine with job `j` in the active place and the multiplexer at its input (R44, R60). -/
def Engine.working (j : Job) (g : Engine) : Engine :=
  { g with mux := some (j.port, j.quantity), active := some j }

/-- The record of a reserved job that ends without a value (R87, R88). -/
def valuelessRecord (s : State) (j : Job) (status : JobStatus) : ResultRec :=
  { id := s.results.nextId, origin := j.origin, port := j.port, quantity := j.quantity, status := status
    samples := j.samplesDone, value := none, time := s.timebase, lost := none, verdicts := [], send := .waiting }

/-- `t` is what the end of job `j` without a value makes of `s`, in which the job has left its place in the engine
(R52, R86 to R88, R90, R92, R93): a reserved job's record takes its reservation's place; an unreserved REPORTED one joins
a queue with room with the lost count, or a full one in place of its oldest WAITING survey record, or is lost; a SILENT
one leaves nothing. -/
def State.EndsValueless (s : State) (j : Job) (status : JobStatus) (t : State) : Prop :=
  let record := valuelessRecord s j status
  let raised := min 255 (s.survey.lost + 1)
  let full := 16 ≤ s.results.queue.length + s.results.reservations
  (j.reserved = true → j.report = .reported →
    t = { s with results := { s.results with
      nextId := s.results.nextId + 1
      reservations := s.results.reservations - 1
      queue := s.results.queue ++ [record] } }) ∧
  (j.reserved = false → j.report = .silent → t = s) ∧
  (j.reserved = false → j.report = .reported → ¬full →
    t =
      { s with
        results := { s.results with
          nextId := s.results.nextId + 1, queue := s.results.queue ++ [{ record with lost := some s.survey.lost }] }
        survey := { s.survey with lost := 0 } }) ∧
  (j.reserved = false → j.report = .reported → full → s.survey.lost ≤ 255 →
    (∀ (older newer : List ResultRec) (r : ResultRec), s.results.queue = older ++ r :: newer →
      (∀ q ∈ older, q.discardable = false) → r.discardable = true →
      t =
        State.latch
          { s with
            results := { s.results with
              nextId := s.results.nextId + 1, queue := older ++ newer ++ [{ record with lost := some raised }] }
            survey := { s.survey with lost := 0 } } .discard) ∧
    ((∀ q ∈ s.results.queue, q.discardable = false) →
      t =
        State.latch
          { s with
            results := { s.results with nextId := s.results.nextId + 1 }
            survey := { s.survey with lost := raised } } .discard))

/-- The state with port `p` replaced. -/
def State.setPort (s : State) (p : PortId) (r : Port) : State := s.modPort p fun _ => r

/-! ## Requests -/

/-- A request of this KIND and tag is executed: it is not held (R174), not answered from the cache (R162) and finds a
reply place (R161). -/
abbrev State.Executes (s : State) (kind tag : Byte) : Prop :=
  s.link.resetPending = false ∧ s.link.replies.length < 4 ∧
    (tag = 0 ∨ ∀ c ∈ s.link.cache, ¬(c.tag = tag ∧ c.kind = kind))

/-- REPLY_OK to a request, with its payload (10.4). -/
def okReply (kind tag : Byte) (payload : List Byte) : List Byte := 0x80 :: tag :: kind :: payload

/-- The command of a request KIND (10.3); none for any other KIND. -/
def requestCommand (kind tag : Byte) (payload : List Byte) : Option Instr :=
  match kind.toNat with
  | 0x01 => some (.hello tag payload)
  | 0x02 => some (.status tag payload)
  | 0x03 => some (.reset tag payload)
  | 0x10 => some (.portSet tag payload)
  | 0x11 => some (.portGet tag payload)
  | 0x12 => some (.portJoin tag payload)
  | 0x13 => some (.portIsolate tag payload)
  | 0x14 => some (.counts tag payload)
  | 0x20 => some (.surveyPut tag payload)
  | 0x21 => some (.surveyGet tag payload)
  | 0x22 => some (.surveyRun tag payload)
  | 0x23 => some (.surveyHold tag payload)
  | 0x24 => some (.surveyResume tag payload)
  | 0x25 => some (.surveyStop tag payload)
  | 0x26 => some (.spot tag payload)
  | 0x27 => some (.spotCancel tag payload)
  | 0x30 => some (.monitorSet tag payload)
  | 0x31 => some (.monitorGet tag payload)
  | 0x38 => some (.reactionSet tag payload)
  | 0x39 => some (.reactionGet tag payload)
  | 0x3A => some (.reactionArm tag payload)
  | 0x40 => some (.summaryGet tag payload)
  | 0x41 => some (.summaryClear tag payload)
  | 0x42 => some (.notifyMask tag payload)
  | _ => none

/-- The payload length of the KINDs that have a fixed one (10.3). -/
def fixedLength (kind : Byte) : Option Nat :=
  match kind.toNat with
  | 0x01 => some 4
  | 0x02 => some 0
  | 0x03 => some 0
  | 0x10 => some 14
  | 0x11 => some 1
  | 0x12 => some 1
  | 0x13 => some 1
  | 0x14 => some 2
  | 0x21 => some 2
  | 0x22 => some 5
  | 0x23 => some 0
  | 0x24 => some 0
  | 0x25 => some 0
  | 0x26 => some 6
  | 0x27 => some 1
  | 0x30 => some 14
  | 0x31 => some 1
  | 0x38 => some 18
  | 0x39 => some 1
  | 0x3A => some 4
  | 0x40 => some 2
  | 0x42 => some 4
  | _ => none

/-- Command `c` with this KIND and tag is refused: REPLY_REFUSED with the reason and the detail, and nothing else but
what every valid frame does (R160, R181). -/
def Refuses (c : Instr) (kind tag : Byte) (reason : Reason) (detail : Nat) (s : State) : Prop :=
  exec c s = .next (s.frameArrives.reply kind tag (.refused reason (BitVec.ofNat 8 detail))).arbitrate

/-- What a request must meet, with the reason and the detail of its refusal (R181). -/
structure Requirement where
  holds : Bool
  reason : Reason
  detail : Nat

/-- The payload has the exact length of its KIND (R179). -/
def exactly (n : Nat) (payload : List Byte) : Requirement :=
  { holds := decide (payload.length = n), reason := .length, detail := payload.length }

/-- A field, first found at body position `position`, is as its range asks (R181). -/
def inRange (holds : Bool) (position : Nat) : Requirement := { holds, reason := .range, detail := position }

/-- A part's own state allows the request (step 5 of R182). -/
def allows (holds : Bool) (reason : Reason) (detail : Nat) : Requirement := { holds, reason, detail }

/-- What must hold for PORT_SET (R35, 2.6): only the named parameters are checked. -/
def portSetRequirements (payload : List Byte) (s : State) : List Requirement :=
  let named := fun (n : Nat) (holds : Bool) => !(u16 payload 1).testBit n || holds
  let state := (s.port (portAt payload 0)).switch.state
  [ exactly 14 payload, inRange (decide (u8 payload 0 ≤ 7)) 2, inRange (decide (u16 payload 1 ≤ 511)) 3
  , inRange (named 0 (decide (u8 payload 3 ≠ 0))) 5, inRange (named 1 (decide (u8 payload 4 ≠ 0))) 6
  , inRange (named 2 (decide (16 ≤ u16 payload 5 ∧ u16 payload 5 ≤ 511))) 7
  , inRange (named 5 (decide (u8 payload 9 ≠ 0))) 11, inRange (named 6 (decide (u8 payload 10 ≠ 0))) 12
  , inRange (named 7 (decide (u16 payload 11 ≤ 4095))) 13
  , inRange (named 8 (decide (1 ≤ u8 payload 13 ∧ u8 payload 13 ≤ 15))) 15
  , allows (decide (state = .isolated ∨ state = .joined)) .state 2 ]

/-- What must hold for the slot range of SURVEY_PUT and SURVEY_GET (R66, R67). -/
def slotRangeRequirements (payload : List Byte) : List Requirement :=
  [ inRange (decide (u8 payload 0 ≤ 47)) 2, inRange (decide (1 ≤ u8 payload 1 ∧ u8 payload 1 ≤ 16)) 3
  , inRange (decide (u8 payload 0 + u8 payload 1 - 1 ≤ 47)) 3 ]

/-- What must hold for description `n` of SURVEY_PUT, whose body position is 4 + 9 `n` (R66). -/
def descriptionRequirements (payload : List Byte) (n : Nat) : List Requirement :=
  let field := fun k => u8 payload (2 + 9 * n + k)
  let entry := fun (holds : Bool) => decide (field 0 ≠ 1) || holds
  [ inRange (decide (field 0 ≤ 1)) (4 + 9 * n), inRange (entry (decide (field 1 ≤ 7))) (5 + 9 * n)
  , inRange (entry (decide (field 2 ≤ 4))) (6 + 9 * n), inRange (entry (decide (field 3 ≤ 8))) (7 + 9 * n)
  , inRange (entry (decide (field 4 ≤ 8))) (8 + 9 * n)
  , inRange (entry (decide (u16 payload (2 + 9 * n + 5) ≠ 0))) (9 + 9 * n)
  , inRange (entry (decide (field 7 ≤ 1))) (11 + 9 * n), inRange (entry (decide (field 8 ≤ 1))) (12 + 9 * n) ]

/-- What must hold for SURVEY_PUT (R66, R179). -/
def surveyPutRequirements (payload : List Byte) (s : State) : List Requirement :=
  let count := u8 payload 1
  let length := 2 ≤ payload.length ∧ (1 ≤ count ∧ count ≤ 16 → payload.length = 2 + 9 * count)
  [{ holds := decide length, reason := .length, detail := payload.length }] ++ slotRangeRequirements payload ++
    (List.range count).flatMap (descriptionRequirements payload) ++ [allows (decide (s.survey.state = .stopped)) .state 0]

/-- What must hold for REACTION_SET (R132): the fields of an EMPTY entry, and those that the kind or the action does not
use, are not checked. What joins fields comes last, in the order of the last field each reads. -/
def reactionSetRequirements (payload : List Byte) : List Requirement :=
  let kind := u8 payload 2
  let action := u8 payload 8
  let target := u8 payload 14
  let entry := fun (holds : Bool) => decide (u8 payload 1 ≠ 1) || holds
  let forKinds := fun (kinds : List Nat) (holds : Bool) => entry (!kinds.contains kind || holds)
  let forActions := fun (actions : List Nat) (holds : Bool) => entry (!actions.contains action || holds)
  [ exactly 18 payload, inRange (decide (u8 payload 0 ≤ 23)) 2, inRange (decide (u8 payload 1 ≤ 1)) 3
  , inRange (entry (decide (kind ≤ 7))) 4, inRange (forKinds [0, 1] (decide (u8 payload 3 ≤ 5))) 5
  , inRange (forKinds [1] (decide (u16 payload 4 ≠ 0))) 6, inRange (forKinds [2, 3] (decide (u8 payload 6 ≤ 11))) 8
  , inRange (forKinds [0, 1, 2, 3, 4, 5, 6] (decide (u8 payload 7 ≤ 7 ∨ u8 payload 7 = 0xFF))) 9
  , inRange (entry (decide (action ≤ 5))) 10, inRange (forActions [2] (decide (u8 payload 9 ≤ 4))) 11
  , inRange (forActions [2] (decide (u8 payload 10 ≤ 8))) 12, inRange (forActions [2] (decide (u8 payload 11 ≤ 8))) 13
  , inRange (forActions [2] (decide (u16 payload 12 ≠ 0))) 14
  , inRange (forActions [0, 1, 2, 3] (decide (target ≤ 7 ∨ target = 0xFE ∨ target = 0xFD))) 16
  , inRange (entry (decide (u8 payload 15 ≤ 1))) 17
  , inRange (forKinds [0] (decide (u8 payload 3 ≠ 0))) 5
  , inRange (forActions [0, 1, 2, 3] (decide (kind = 7 → target ≠ 0xFE))) 16
  , inRange (forActions [0, 1, 2] (decide (target ≠ 0xFD))) 16 ]

/-- The EMPTY entries that the set of REACTION_ARM names, ascending (R133). -/
def State.namedEmpty (s : State) (payload : List Byte) : List EntryId :=
  (indexes 24).filter fun (i : EntryId) => (u24 payload 0).testBit i.val && s.reactions[i].isNone

/-- What must hold for SUMMARY_CLEAR (R149, R179). -/
def summaryClearRequirements (payload : List Byte) (s : State) : List Requirement :=
  let count := u8 payload 4
  let source := fun n => u8 payload (5 + 3 * n)
  let length := 5 ≤ payload.length ∧ (count ≤ 9 → payload.length = 5 + 3 * count)
  [{ holds := decide length, reason := .length, detail := payload.length }, inRange (decide (count ≤ 9)) 6] ++
    (List.range count).map (fun n => inRange (decide (source n ≤ 8)) (7 + 3 * n)) ++
    (List.range count).flatMap (fun n =>
      [ inRange (decide (∀ k ∈ List.range n, source k ≠ source n)) (7 + 3 * n)
      , inRange (decide (u16 payload (6 + 3 * n) < 2 ^ (if source n = 8 then 4 else 11))) (8 + 3 * n) ]) ++
    [inRange (decide (u32 payload 0 ≤ s.summary.stamp.toNat)) 2]

/-- What must hold for a request, in the order in which R182 has them checked: length, fields, fields together, state. -/
def requestRequirements (kind tag : Byte) (payload : List Byte) (s : State) : List Requirement :=
  let portField := inRange (decide (u8 payload 0 ≤ 7)) 2
  match kind.toNat with
  | 0x01 =>
    [ exactly 4 payload, inRange (decide (1 ≤ u8 payload 0 ∧ u8 payload 0 ≤ 4)) 2, inRange (decide (u8 payload 1 ≠ 0)) 3
    , inRange (decide (1 ≤ u8 payload 2 ∧ u8 payload 2 ≤ 7)) 4 ]
  | 0x02 => [exactly 0 payload]
  | 0x03 => [exactly 0 payload]
  | 0x10 => portSetRequirements payload s
  | 0x11 => [exactly 1 payload, portField]
  | 0x12 => [exactly 1 payload, portField]
  | 0x13 => [exactly 1 payload, portField]
  | 0x14 => [exactly 2 payload, portField, inRange (decide (u8 payload 1 ≤ 1)) 3]
  | 0x20 => surveyPutRequirements payload s
  | 0x21 => exactly 2 payload :: slotRangeRequirements payload
  | 0x22 =>
    [ exactly 5 payload, inRange (decide (u8 payload 0 ≤ 2)) 2, inRange (decide (u8 payload 1 ≤ 1)) 3
    , inRange (decide (u8 payload 2 ≤ 1)) 4, inRange (decide (10 ≤ u16 payload 3)) 5
    , allows (decide (s.survey.state = .stopped)) .state 0
    , allows (s.survey.slots.toList.any fun slot => slot.any fun d => d.enabled) .notFound 0 ]
  | 0x23 => [exactly 0 payload, allows (decide (s.survey.state = .running)) .state 0]
  | 0x24 => [exactly 0 payload, allows (decide (s.survey.state = .held)) .state 0]
  | 0x25 => [exactly 0 payload, allows (decide (s.survey.state ≠ .stopped)) .state 0]
  | 0x26 =>
    [ exactly 6 payload, inRange (decide (1 ≤ tag.toNat ∧ tag.toNat ≤ 127)) 1, portField
    , inRange (decide (u8 payload 1 ≤ 4)) 3, inRange (decide (u8 payload 2 ≤ 8)) 4
    , inRange (decide (u8 payload 3 ≤ 8)) 5, inRange (decide (u16 payload 4 ≠ 0)) 6
    , allows (decide (s.spots.length < 8)) .full 0 ]
  | 0x27 =>
    [ exactly 1 payload, inRange (decide (u8 payload 0 ≠ 0)) 2
    , allows (s.spots.any fun r => decide (r.tag = byteAt payload 0)) .notFound 0 ]
  | 0x30 =>
    [ exactly 14 payload, inRange (decide (u8 payload 0 ≤ 11)) 2, inRange (decide (u8 payload 1 ≤ 4)) 3
    , inRange (decide (u32 payload 3 ≤ 1048575)) 5, inRange (decide (u32 payload 7 ≤ 1048575)) 9
    , inRange (decide (1 ≤ u8 payload 11 ∧ u8 payload 11 ≤ 15)) 13, inRange (decide (u8 payload 12 ≤ 2)) 14
    , inRange (decide (u8 payload 13 ≤ 1)) 15, inRange (decide (u32 payload 3 ≤ u32 payload 7)) 9 ]
  | 0x31 => [exactly 1 payload, inRange (decide (u8 payload 0 ≤ 11)) 2]
  | 0x38 => reactionSetRequirements payload
  | 0x39 => [exactly 1 payload, inRange (decide (u8 payload 0 ≤ 23)) 2]
  | 0x3A =>
    [ exactly 4 payload, inRange (decide (u8 payload 3 ≤ 1)) 5
    , allows (decide (u8 payload 3 = 1 → s.namedEmpty payload = [])) .state
        (((s.namedEmpty payload).head?.map (·.val)).getD 0) ]
  | 0x40 =>
    let named := (indexes 9).filter fun (i : SourceId) => (u16 payload 0).testBit i.val
    [exactly 2 payload, inRange (decide (u16 payload 0 ≤ 511 ∧ named.length ≤ 4)) 2]
  | 0x41 => summaryClearRequirements payload s
  | 0x42 =>
    [ exactly 4 payload, inRange (decide (u8 payload 0 ≤ 8)) 2, inRange (decide (u8 payload 1 ≤ 1)) 3
    , inRange (decide (u8 payload 1 = 1 → u16 payload 2 < 2 ^ (if u8 payload 0 = 8 then 3 else 10))) 4 ]
  | _ => []

/-- The checks that REACTION_SET makes on the fields of an entry (R132). -/
abbrev ReactionConfig.Acceptable (c : ReactionConfig) : Prop :=
  (c.kind = .condition ∨ c.kind = .dwell → c.condition.toNat < 6) ∧
  (c.kind = .condition → c.condition ≠ 0) ∧
  (c.kind = .dwell → c.threshold ≠ 0) ∧
  (c.kind = .monTrip ∨ c.kind = .monRelease → c.monitor.toNat < 12) ∧
  (c.kind ≠ .linkLost → c.port.toNat < 8 ∨ c.port = 0xFF) ∧
  (c.action = .spot → c.spotQuantity.toNat < 5 ∧ c.spotE.toNat ≤ 8 ∧ c.spotShift.toNat ≤ 8 ∧ c.spotGateTimeout ≠ 0) ∧
  (c.action = .isolate ∨ c.action = .rejoin ∨ c.action = .spot ∨ c.action = .notify →
    (c.target.toNat < 8 ∨ c.target = 0xFE ∨ (c.target = 0xFD ∧ c.action = .notify)) ∧
    (c.kind = .linkLost → c.target ≠ 0xFE))

/-! ## Laws of the ports -/

/-- R106: an open switch means DARK (SWITCHED), an empty probe slot, no settle timer and no sense timer; the hold timer
runs in HOLDOFF alone; retries stay at or below max retries, below it outside
ISOLATED, and at 0 in JOINED. -/
structure Port.SwitchLaw (r : Port) : Prop where
  dark : r.switch.state.closed = false → r.cond.condition = .dark ∧ r.cond.cause = .switched
  sense : r.switch.state.closed = false → r.cond.sense = none
  slot : r.switch.state ≠ .probing → r.switch.slot = .empty
  settle : r.switch.state ≠ .probing → r.switch.settle = none
  hold : r.switch.state ≠ .holdoff → r.switch.hold = none
  maxRetries : 1 ≤ r.params.maxRetries
  retries : r.switch.retries ≤ r.params.maxRetries
  trying : r.switch.state ≠ .isolated → r.switch.retries < r.params.maxRetries
  joined : r.switch.state = .joined → r.switch.retries = 0

/-- Every port keeps the law of R106. -/
def State.SwitchLaw (s : State) : Prop := ∀ p, (s.port p).SwitchLaw

/-- R21, R22, R28, R31, R32: the noise level stays at or below its ceiling, the drain timer runs exactly while it is
above 0, the level is 0 in DARK, the QUIET gate is open in QUIET alone, and the counts stop at their limits. -/
structure Port.ClassifierLaw (r : Port) : Prop where
  ceiling : r.cond.noiseLevel ≤ r.params.noiseCeiling
  ceilingPositive : 1 ≤ r.params.noiseCeiling
  drain : r.cond.drain.isSome = true ↔ 0 < r.cond.noiseLevel
  dark : r.cond.condition = .dark → r.cond.noiseLevel = 0
  gate : r.cond.quietGate = true → r.cond.condition = .quiet
  quietRun : r.cond.quietRun ≤ 24
  activeRun : r.cond.activeRun ≤ 65535
  dwell : r.cond.dwell ≤ 65535

/-- Every port keeps the classifier's law. -/
def State.ClassifierLaw (s : State) : Prop := ∀ p, (s.port p).ClassifierLaw

/-! ## Laws of the result unit and the engine -/

/-- R103: ALERT is high exactly when an alert-enabled monitor has a guarded port OUTSIDE. -/
def State.AlertLaw (s : State) : Prop :=
  s.results.alert = true ↔
    ∃ m : Fin 12, ∃ p : PortId,
      s.results.monitors[m].alertEnable = true ∧ s.results.monitors[m].guarded.getLsbD p.val = true ∧
        s.results.monitors[m].ports[p].outside = true

/-- The reservation that a place of the engine holds. -/
def heldBy : Option Job → Nat
  | none => 0
  | some j => if j.reserved then 1 else 0

/-- A probe's job. -/
def Job.isProbe (j : Job) : Bool :=
  match j.origin with
  | .probe _ => true
  | .spot _ => false
  | .survey _ _ => false

/-- R43, R56, R80, R89: the reservations are those of the jobs in the engine, a probe holds none, records plus
reservations never exceed 16, the parked job is a survey job, no survey job is active beside it, and at most 8 spots are
queued. -/
structure State.PlaceLaw (s : State) : Prop where
  reservations : s.results.reservations = heldBy s.engine.active + heldBy s.engine.parked
  places : s.results.queue.length + s.results.reservations ≤ 16
  parked : ∀ j, s.engine.parked = some j → j.isSurvey = true
  probe : ∀ j, s.engine.active = some j → j.isProbe = true → j.reserved = false
  one : ∀ j, s.engine.active = some j → j.isSurvey = true → s.engine.parked = none
  handingOver : s.engine.handingOver = false
  spots : s.spots.length ≤ 8

/-! ## Laws of the summary and the host link -/

/-- R148: the set-stamp of every SET flag is at most the summary stamp. -/
def State.StampLaw (s : State) : Prop :=
  ∀ source : SourceId, ∀ flag : FlagId, ∀ t, s.summary.flags[source][flag] = some t → t.toNat ≤ s.summary.stamp.toNat

/-- R161, R162, R174: the reply queue, the cache and the hold list stay within four places, the cache holds no tag 0 and
no tag and KIND twice, and frames are held only while a reset is pending. -/
structure State.LinkLaw (s : State) : Prop where
  replies : s.link.replies.length ≤ 4
  cache : s.link.cache.length ≤ 4
  hold : s.link.hold.length ≤ 4
  held : s.link.hold ≠ [] → s.link.resetPending = true
  tags : ∀ c ∈ s.link.cache, c.tag ≠ 0
  single : (s.link.cache.map fun c => (c.tag, c.kind)).Nodup
  discarded : s.link.discarded ≤ 65535

/-- R163: at most window reports are SENT while the session is OPEN; otherwise none is, and the ack timer, the watchdog
and the retransmit list are at rest. -/
structure State.SessionLaw (s : State) : Prop where
  opened : s.link.session.state = .opened → s.sentNumbers.length ≤ s.link.session.window
  notOpened : s.link.session.state ≠ .opened →
    s.sentNumbers = [] ∧ s.link.session.ackTimer = none ∧ s.link.session.watchdog = none ∧
      s.link.session.retransmit = []

end Sys2Proof.Machine
end

