-- ==== Sys2Proof/Certificates/Slice0/Obligations.lean ====
section
/-! DEFINITION. The statements for the provers, chapter by chapter. A statement about a command concludes that `exec`
answers a next state and says which. Where the effect ends in the engine's choice (`wakeEngine`, described by the
statements of chapter 3), in an occurrence handed on (`raise`, chapters 7 and 8) or in the output arbiter's choice
(`arbitrate`, chapter 9), the statement gives the state that these act on. That the arbiter chooses once, after the
command's whole effect, is the model's choice (log 32). -/

open Sys2Proof Sys2Proof.Machine

/-! ## The block -/

/-- A step takes the command at the front of the queue and runs it on the queue's rest; on an empty queue half a
microsecond passes. The queue and the tick are the model's convention (log 1). -/
def Obligations.StepRunsFrontCommand : Prop :=
  (∀ (c : Instr) (rest : List Instr) (s : State), s.pending = c :: rest →
    step s = exec c { s with pending := rest }) ∧
  ∀ s : State, s.pending = [] → step s = .next (s.elapse 1)

/-- A duration of `d` half microseconds passes (00_scope, 1.2, 2.2, 2.3, 2.5, 3.3, 4.3, 6.2, 7.3, 9.2, 9.4, 9.5): the
timebase counts whole milliseconds modulo 2^32, every running timer comes closer to its end and waits there at 0, the
sense timer runs up to its 2 ms, the symbol in progress of a closed port moves on up to its end with its half-cells
holding the line's level, the active job's settle interval, timed sample and gate wait move in their own phases
alone, and everything else stands. That time is counted so, and that a timer waits at 0, are the model's choices
(logs 2, 5). -/
def Obligations.TimePasses : Prop :=
  ∀ (d : Nat) (s : State),
    let t := s.elapse d
    let down := fun (timer : Option Nat) => timer.map fun left => left - d
    let held := fun (line : Level) (time : Nat) (h : HalfCell) =>
      match line with
      | .high => { h with high := h.high + time }
      | .low => { h with low := h.low + time }
      | .flat => { h with flat := h.flat + time }
    t.timebase.toNat = (s.timebase.toNat + (s.subMs + d) / 2000) % 2 ^ 32 ∧ t.subMs = (s.subMs + d) % 2000 ∧
    (∀ p : PortId,
      let r := s.port p
      let position := min 50 (r.tap.position + d)
      t.port p =
        { r with
          tap :=
            if r.switch.state = .probing ∨ r.switch.state = .joined then
              { r.tap with
                position := position
                first := held r.line (min 25 position - min 25 r.tap.position) r.tap.first
                second := held r.line (max 25 position - max 25 r.tap.position) r.tap.second }
            else r.tap
          cond := { r.cond with
            dwellLeft := r.cond.dwellLeft - d
            drain := down r.cond.drain
            sense := r.cond.sense.map fun run => min 4000 (run + d)
            budgetTimer := down r.cond.budgetTimer }
          switch := { r.switch with hold := down r.switch.hold, settle := down r.switch.settle } }) ∧
    (s.engine.active = none → t.engine = s.engine) ∧
    (∀ j : Job, s.engine.active = some j →
      (j.phase = .settling → t.engine = { s.engine with active := some { j with settleLeft := j.settleLeft - d } }) ∧
      (∀ left : Nat, j.phase = .sampling → j.sample = .timed left →
        t.engine = { s.engine with active := some { j with sample := .timed (left - d) } }) ∧
      (j.phase = .sampling → (∀ left : Nat, j.sample ≠ .timed left) → t.engine = s.engine) ∧
      (j.phase = .gated →
        t.engine = { s.engine with active := some { j with
          gateWait := min (j.gateTimeout * ticksPerMs) (j.gateWait + d) } })) ∧
    (∀ i : EntryId, t.reactions[i] = s.reactions[i].map fun e => { e with holdbackTimer := down e.holdbackTimer }) ∧
    t =
      { s with
        timebase := t.timebase
        subMs := t.subMs
        ports := t.ports
        engine := t.engine
        survey := { s.survey with pace := down s.survey.pace, floorLeft := s.survey.floorLeft - d }
        reactions := t.reactions
        link := { s.link with
          rx := { s.link.rx with gap := down s.link.rx.gap }
          session := { s.link.session with
            ackTimer := down s.link.session.ackTimer, watchdog := down s.link.session.watchdog } } }

/-- Every command, in every state, is answered with a next state whose queue is the one it found. -/
def Obligations.EveryCommandAnswers : Prop :=
  ∀ (c : Instr) (s : State), ∃ t, exec c s = .next t ∧ t.pending = s.pending

/-- FULL_RESET leaves every block at the values that its chapter gives for full reset (1.7, 2.7, 3.6, 4.6, 5.2, 5.4,
6.6, 7.5, 8.5, 9.6). The power-sense inputs, the line levels and the queue of commands are kept (log 30). -/
def Obligations.FullResetValues : Prop :=
  ∀ (straps : Straps) (s : State), ∃ t, exec (.fullReset straps) s = .next t ∧
    t.timebase = 0 ∧ t.pending = s.pending ∧
    (∀ p,
      let r := t.port p
      r.powerGood = (s.port p).powerGood ∧ r.line = (s.port p).line ∧
      r.params =
        { noiseCeiling := 16, drainInterval := 10, frameLimit := 272, errorBudget := 20, budgetWindow := 60
          holdTime := 50, settleTime := 20, probeLimit := 3000, maxRetries := 3 } ∧
      r.tap.timing = .free ∧ r.tap.recog = .hunting ∧ r.tap.trafficGate = false ∧
      r.tap.counters = { good := 0, badCheck := 0, broken := 0, overlong := 0, junk := 0 } ∧
      r.cond.condition = (if straps.joinMode then .unseen else .dark) ∧
      r.cond.cause = (if straps.joinMode then .observed else .switched) ∧
      r.cond.entryTime = 0 ∧ r.cond.dwell = 0 ∧ r.cond.noiseLevel = 0 ∧ r.cond.activeRun = 0 ∧
      r.cond.quietRun = 0 ∧ r.cond.drain = none ∧
      r.cond.sense = (if straps.joinMode = true ∧ r.powerGood = false then some 0 else none) ∧
      r.cond.budgetLeft = 20 ∧ r.cond.budgetTimer = some (60 * ticksPerSecond) ∧ r.cond.quietGate = false ∧
      r.switch =
        { state := if straps.joinMode then .probing else .isolated, cause := .strap, retries := 0, hold := none
          settle := if straps.joinMode then some (20 * ticksPerMs) else none, slot := .empty, lastProbe := none }) ∧
    t.engine = { mux := none, active := none, parked := none, handingOver := false } ∧
    (∀ i : SlotId, t.survey.slots[i] = none) ∧ t.survey.state = .stopped ∧ t.survey.mode = .continuous ∧
    t.survey.pacing = .stall ∧ t.survey.policy = .keep ∧ t.survey.interval = 1000 ∧ t.survey.cursor = 0 ∧
    t.survey.inPass = false ∧ t.survey.passNumber = 0 ∧ t.survey.passStart = 0 ∧ t.survey.pace = none ∧
    t.survey.tickPending = false ∧ t.survey.lost = 0 ∧ t.spots = [] ∧
    t.results.queue = [] ∧ t.results.reservations = 0 ∧ t.results.nextId = 0 ∧ t.results.alert = false ∧
    (∀ m : Fin 12, t.results.monitors[m] =
      { quantity := .vseg, guarded := 0, low := 0, high := 1048575, releaseCount := 1, appliesTo := .both
        alertEnable := false, ports := Vector.replicate 8 { outside := false, insideCount := 0 } }) ∧
    (∀ i : EntryId, t.reactions[i] = none) ∧
    (∀ (i : SourceId) (f : FlagId), t.summary.flags[i][f] = none) ∧ t.summary.stamp = 0 ∧
    (∀ i : SourceId, t.summary.masks[i] = 0) ∧ t.summary.events = [] ∧
    t.link.rate1 = straps.rate1 ∧ t.link.rate0 = straps.rate0 ∧ t.link.rx.state = .hunt ∧ t.link.discarded = 0 ∧
    t.link.replies = [] ∧ t.link.cache = [] ∧ t.link.hold = [] ∧ t.link.resetPending = false ∧ t.link.line = none ∧
    t.link.session =
      { state := .closed, window := 1, ackTimeout := 100, retransmitLimit := 3, watchdogPeriod := 0, nextSeq := 0
        retryCount := 0, ackTimer := none, watchdog := none, retransmit := [] }

/-- The end of the RESET reply on the line, as FRAME_SENT or as SOFT_RESET, leaves every block at its soft reset values
(1.7, 2.7, 3.6, 4.6, 5.2, 5.4, 6.6, 7.5, 8.5, 9.6) and then executes the held requests. That both commands do it is the
model's reading (log 17). -/
def Obligations.SoftResetValues : Prop :=
  ∀ (tag : Byte) (rest : List (List Byte)) (f : LineFrame) (s : State),
    s.link.resetPending = true → s.link.line = some f → f.report = false →
    s.link.replies = okReply 0x03 tag [] :: rest →
    ∃ v : State,
      exec .softReset s = .next (executeHeld s.link.hold v).arbitrate ∧
      exec .frameSent s = .next (executeHeld s.link.hold v).arbitrate ∧
      v.timebase = s.timebase ∧ v.subMs = s.subMs ∧ v.joinMode = s.joinMode ∧ v.pending = s.pending ∧
      (∀ p,
        let r := s.port p
        let q := v.port p
        let closed := r.switch.state = .probing ∨ r.switch.state = .joined
        q.params = r.params ∧ q.powerGood = r.powerGood ∧ q.line = r.line ∧
        q.tap.recog = .hunting ∧ q.tap.trafficGate = false ∧ q.tap.counters = .zero ∧
        (closed → q.tap.timing = .free) ∧
        q.cond.condition = (if closed then .unseen else .dark) ∧
        q.cond.cause = (if closed then .observed else .switched) ∧
        q.cond.entryTime = s.timebase ∧ q.cond.dwell = 0 ∧ q.cond.noiseLevel = 0 ∧ q.cond.activeRun = 0 ∧
        q.cond.quietRun = 0 ∧ q.cond.drain = none ∧
        q.cond.sense = (if closed ∧ r.powerGood = false then some 0 else none) ∧
        q.cond.budgetLeft = r.params.errorBudget ∧
        q.cond.budgetTimer =
          (if r.params.budgetWindow = 0 then none else some (r.params.budgetWindow * ticksPerSecond)) ∧
        q.cond.quietGate = false ∧
        q.switch =
          { r.switch with
            slot := if r.switch.state = .probing then .empty else r.switch.slot
            settle := if r.switch.state = .probing then some (r.params.settleTime * ticksPerMs)
              else r.switch.settle }) ∧
      v.engine = { mux := none, active := none, parked := none, handingOver := false } ∧
      v.survey.slots = s.survey.slots ∧ v.survey.state = .stopped ∧ v.survey.mode = s.survey.mode ∧
      v.survey.pacing = s.survey.pacing ∧ v.survey.policy = s.survey.policy ∧
      v.survey.interval = s.survey.interval ∧ v.survey.cursor = 0 ∧ v.survey.inPass = false ∧
      v.survey.passNumber = 0 ∧ v.survey.passStart = s.timebase ∧ v.survey.pace = none ∧
      v.survey.tickPending = false ∧ v.survey.lost = 0 ∧ v.spots = [] ∧
      v.results.queue = [] ∧ v.results.reservations = 0 ∧ v.results.nextId = 0 ∧ v.results.alert = false ∧
      (∀ m : Fin 12, v.results.monitors[m] =
        { s.results.monitors[m] with ports := Vector.replicate 8 { outside := false, insideCount := 0 } }) ∧
      (∀ i : EntryId, v.reactions[i] = s.reactions[i].map fun e =>
        { e with fireCount := 0, lastFire := none, lastOutcome := .none, holdbackTimer := none }) ∧
      (∀ (i : SourceId) (g : FlagId), v.summary.flags[i][g] = none) ∧ v.summary.stamp = 0 ∧
      v.summary.masks = s.summary.masks ∧ v.summary.events = [] ∧
      v.link =
        { s.link with
          discarded := 0, replies := [], cache := [], hold := [], resetPending := false, line := none
          session :=
            { s.link.session with
              state := .closed, nextSeq := 0, retryCount := 0, ackTimer := none, watchdog := none
              retransmit := [] } }

/-- The laws of the ports, of ALERT, of the result places, of the set-stamps, of the link's queues and of the session
hold right after every full reset. -/
def Obligations.LawsHoldAtReset : Prop :=
  ∀ (straps : Straps) (powerGood : Vector Bool 8) (lines : Vector Level 8),
    let s := State.atReset straps powerGood lines
    s.SwitchLaw ∧ s.ClassifierLaw ∧ s.AlertLaw ∧ s.PlaceLaw ∧ s.StampLaw ∧ s.LinkLaw ∧ s.SessionLaw

/-! ## Chapter 1: the line tap -/

/-- R7: the frame check, its coverage in a segment frame and in a link frame, and its two reference values. A segment
frame of 4 or more preamble symbols is judged by it (1.4): a matching check gives GOOD and another BADCHECK, fewer than
three bytes BROKEN, and the byte past the frame limit OVERLONG. Nothing else is indicated but the start-delimiter
completion. -/
def Obligations.FramesAreCheckedAndJudged : Prop :=
  (∀ covered : List Byte,
    frameCheck covered =
      (covered.flatMap fun b => [7, 6, 5, 4, 3, 2, 1, 0].map fun i => b.getLsbD i).foldl
        (fun (r : Word16) (bit : Bool) => if (bit ^^ r.msb) = true then (r <<< 1) ^^^ 0x1021 else r <<< 1) (0xFFFF : Word16)) ∧
  frameCheck [0x00] = 0xE1F0 ∧
  frameCheck [0x31, 0x32, 0x33, 0x34, 0x35, 0x36, 0x37, 0x38, 0x39] = 0x29B1 ∧
  (∀ (rx : Receiver) (hi lo : Byte), rx.check = [hi, lo] →
    (rx.checkMatches = true ↔ hi ++ lo = frameCheck (BitVec.ofNat 8 rx.len :: rx.body))) ∧
  (∀ (limit preamble : Nat) (covered : List Byte) (hi lo : Byte), 4 ≤ preamble → covered ≠ [] →
    covered.length + 2 ≤ limit →
    runRecogniser limit (frameSymbols preamble (covered ++ [hi, lo])) .hunting =
      (.hunting,
        List.replicate (preamble + 7) .nothing ++ [.startCompletion] ++
          List.replicate (8 * (covered.length + 2) + 7) .nothing ++
          [.outcome (if hi ++ lo = frameCheck covered then .good else .badCheck)])) ∧
  (∀ (limit preamble : Nat) (body : List Byte), 4 ≤ preamble → body.length ≤ 2 → body.length ≤ limit →
    runRecogniser limit (frameSymbols preamble body) .hunting =
      (.hunting,
        List.replicate (preamble + 7) .nothing ++ [.startCompletion] ++
          List.replicate (8 * body.length + 7) .nothing ++ [.outcome .broken])) ∧
  ∀ (limit preamble : Nat) (body : List Byte), 4 ≤ preamble → body.length = limit + 1 →
    runRecogniser limit (List.replicate preamble .one ++ startDelimiter ++ body.flatMap byteSymbols) .hunting =
      (.hunting,
        List.replicate (preamble + 7) .nothing ++ [.startCompletion] ++
          List.replicate (8 * limit + 7) .nothing ++ [.outcome .overlong])

/-- The recogniser, class by class (1.4): what each class does in HUNT, PREAMBLE, START, BODY and END. A body bit is
shifted in, and the eighth completes its byte: the older of two held bytes goes into the running check, the new byte is
held, and the byte count is compared with the frame limit in force at that byte. The eighth match of the start
delimiter completes it; the eighth of the end delimiter judges the frame by the two held bytes. -/
def Obligations.RecogniserSteps : Prop :=
  startDelimiter = [.ml, .mh, .one, .ml, .mh, .zero, .one, .zero] ∧
  endDelimiter = [.ml, .mh, .zero, .mh, .ml, .one, .zero, .one] ∧
  ∀ (limit : Nat) (c : SymClass) (r : Recogniser),
    (r.state = .hunt → c ≠ .one → recogStep limit c r = (.hunting, .nothing)) ∧
    (r.state = .hunt → c = .one →
      recogStep limit c r = ({ Recogniser.hunting with state := .preamble, preambleCount := 1 }, .nothing)) ∧
    (r.state = .preamble → r.preambleCount ≤ 4 → c = .one →
      recogStep limit c r = ({ r with preambleCount := min 4 (r.preambleCount + 1) }, .nothing)) ∧
    (r.state = .preamble → c = .ml → r.preambleCount = 4 →
      recogStep limit c r = ({ r with state := .start, delimPos := 1 }, .nothing)) ∧
    (r.state = .preamble → c = .ml → r.preambleCount ≠ 4 → recogStep limit c r = (.hunting, .nothing)) ∧
    (r.state = .preamble → c ≠ .one → c ≠ .ml → recogStep limit c r = (.hunting, .nothing)) ∧
    (r.state = .start → startDelimiter[r.delimPos]? = some c → r.delimPos < 7 →
      recogStep limit c r = ({ r with delimPos := r.delimPos + 1 }, .nothing)) ∧
    (r.state = .start → startDelimiter[r.delimPos]? ≠ some c → c = .junk ∨ c = .quiet →
      recogStep limit c r = (.hunting, .outcome .broken)) ∧
    (r.state = .start → startDelimiter[r.delimPos]? ≠ some c → c ≠ .junk → c ≠ .quiet →
      recogStep limit c r = (.hunting, .nothing)) ∧
    (r.state = .start → c = .zero → r.delimPos = 7 →
      recogStep limit c r =
        ({ r with
           state := .body, delimPos := 8, byteCount := 0, bitPos := 0, byteInProgress := 0, held := []
           runningCheck := 0xFFFF }, .startCompletion)) ∧
    (r.state = .body → c = .one ∨ c = .zero →
      let b : Byte := (r.byteInProgress <<< 1) ||| (if c = .one then 1 else 0)
      (r.bitPos < 7 →
        recogStep limit c r = ({ r with byteInProgress := b, bitPos := r.bitPos + 1 }, .nothing)) ∧
      (r.bitPos = 7 → r.byteCount + 1 ≤ limit → r.held.length < 2 →
        recogStep limit c r =
          ({ r with
             held := r.held ++ [b], byteCount := r.byteCount + 1, bitPos := 0, byteInProgress := 0 }, .nothing)) ∧
      (∀ b0 b1 : Byte, r.bitPos = 7 → r.byteCount + 1 ≤ limit → r.held = [b0, b1] →
        recogStep limit c r =
          ({ r with
             runningCheck :=
               ([7, 6, 5, 4, 3, 2, 1, 0].map fun i => b0.getLsbD i).foldl
                 (fun (k : Word16) (bit : Bool) => if (bit ^^ k.msb) = true then (k <<< 1) ^^^ 0x1021 else k <<< 1)
                 r.runningCheck
             held := [b1, b], byteCount := r.byteCount + 1, bitPos := 0, byteInProgress := 0 }, .nothing)) ∧
      (r.bitPos = 7 → limit < r.byteCount + 1 → recogStep limit c r = (.hunting, .outcome .overlong))) ∧
    (r.state = .body → c = .ml → r.bitPos = 0 →
      recogStep limit c r = ({ r with state := .ending, delimPos := 1 }, .nothing)) ∧
    (r.state = .body → c = .ml → r.bitPos ≠ 0 → recogStep limit c r = (.hunting, .outcome .broken)) ∧
    (r.state = .body → c = .mh ∨ c = .quiet ∨ c = .junk → recogStep limit c r = (.hunting, .outcome .broken)) ∧
    (r.state = .ending → endDelimiter[r.delimPos]? = some c → r.delimPos < 7 →
      recogStep limit c r = ({ r with delimPos := r.delimPos + 1 }, .nothing)) ∧
    (r.state = .ending → c = .one → r.delimPos = 7 →
      (r.byteCount < 3 → recogStep limit c r = (.hunting, .outcome .broken)) ∧
      ∀ hi lo : Byte, 3 ≤ r.byteCount → r.held = [hi, lo] →
        recogStep limit c r = (.hunting, .outcome (if hi ++ lo = r.runningCheck then .good else .badCheck))) ∧
    (r.state = .ending → endDelimiter[r.delimPos]? ≠ some c → recogStep limit c r = (.hunting, .outcome .broken))

/-- LINE_TRANSITION (1.2). A transition from a level that the line does not have, or to the same level, changes nothing
(log 3); on an open switch the line alone changes. On a closed switch the time up to the transition passes (log 2), and
in FREE timing a transition out of flat or between high and low cuts the symbol time short, begins a symbol and locks
the timing; one to flat does not (log 25). In LOCKED timing a transition within 3 us of an edge moves the timing to it,
so that the time since the edge's former place belongs to the half-cell before it (log 34), and another marks the symbol
in progress. -/
def Obligations.LineTransitionTiming : Prop :=
  ∀ (p : PortId) (source target : Level) (offset : Nat) (s : State),
    let position := max (s.port p).tap.position offset
    let e := s.elapse (offset - (s.port p).tap.position)
    let r : Port := { e.port p with line := target }
    let fresh : HalfCell := { high := 0, low := 0, flat := 0 }
    let both : HalfCell :=
      { high := r.tap.first.high + r.tap.second.high, low := r.tap.first.low + r.tap.second.low
        flat := r.tap.first.flat + r.tap.second.flat }
    let nearStart := position ≤ 6
    let nearMiddle := 19 ≤ position ∧ position ≤ 31
    ((s.port p).line ≠ source ∨ source = target → exec (.lineTransition p source target offset) s = .next s) ∧
    ((s.port p).line = source → source ≠ target → s.closed p = false →
      exec (.lineTransition p source target offset) s = .next (s.setPort p { s.port p with line := target })) ∧
    (s.closed p = true → (s.port p).line = source → source ≠ target → offset ≤ 50 → (s.port p).tap.position ≤ 50 →
      ((s.port p).tap.timing = .free → source = .flat ∨ target ≠ .flat →
        exec (.lineTransition p source target offset) s =
          .next ((e.setPort p { r with tap := { r.tap with
            timing := .locked, position := 0, midHalf := false, first := fresh, second := fresh } }).symbolCut
              p).arbitrate) ∧
      ((s.port p).tap.timing = .free → source ≠ .flat → target = .flat →
        exec (.lineTransition p source target offset) s = .next (e.setPort p r)) ∧
      ((s.port p).tap.timing = .locked →
        exec (.lineTransition p source target offset) s =
          .next (e.setPort p { r with
            tap :=
              { r.tap with
                position := if nearStart then 0 else if nearMiddle then 25 else if 44 ≤ position then 50 else position
                first := if nearStart then fresh else if nearMiddle then both else r.tap.first
                second := if nearStart ∨ nearMiddle then fresh else r.tap.second
                midHalf :=
                  r.tap.midHalf || (decide (7 ≤ position ∧ position ≤ 18) || decide (32 ≤ position ∧ position ≤ 43)) } })))

/-- The level of a half-cell (1.2): the one it holds for most of its time; where it holds none for so long the manual
states no level, and the command's `first` and `second` stand for any (log 33). The class of a symbol: the table of its
two half-cells, and JUNK for a mid-half transition. SYMBOL_DELIVERY (1.2 to 1.6): the rest of the symbol time passes
first (log 2); then the class goes to the JUNK counter, the recogniser and the classifier, the completion or outcome to
the counters, the gate and the classifier; the occurrences follow, and then the engine takes the symbol boundary (log
7). Before the occurrences, time apart, the parameters, the switch record and every other port are as they were. An open
switch delivers nothing. -/
def Obligations.SymbolDeliveryEffect : Prop :=
  (∀ (undecided : Level) (h : HalfCell),
    let total := h.high + h.low + h.flat
    (total < 2 * h.high → h.level undecided = .high) ∧ (total < 2 * h.low → h.level undecided = .low) ∧
    (total < 2 * h.flat → h.level undecided = .flat) ∧
    (2 * h.high ≤ total → 2 * h.low ≤ total → 2 * h.flat ≤ total → h.level undecided = undecided)) ∧
  ((∀ first second : Level, symbolClass true first second = .junk) ∧
   symbolClass false .high .low = .one ∧ symbolClass false .low .high = .zero ∧
   symbolClass false .high .high = .mh ∧ symbolClass false .low .low = .ml ∧
   symbolClass false .flat .flat = .quiet ∧ symbolClass false .high .flat = .junk ∧
   symbolClass false .low .flat = .junk ∧ symbolClass false .flat .high = .junk ∧
   symbolClass false .flat .low = .junk) ∧
  (∀ (p : PortId) (first second : Level) (code : Code) (s : State),
     (s.closed p = false → exec (.symbolDelivery p first second code) s = .next s) ∧
     (s.closed p = true →
       let e := s.elapse (50 - (s.port p).tap.position)
       let r := e.port p
       let c := symbolClass r.tap.midHalf (r.tap.first.level first) (r.tap.second.level second)
       let g := recogStep r.params.frameLimit c r.tap.recog
       let byClass := r.cond.takeClass e.timebase r.params c
       let byFrame := byClass.1.takeIndication e.timebase r.params g.2
       let up := fun (b : Prop) [Decidable b] (n : Word32) => if b then (if n = 0xFFFFFFFF then n else n + 1) else n
       let v := e.setPort p { r with
         cond := byFrame.1
         tap :=
           { timing := if c = .quiet then .free else r.tap.timing
             position := 0
             midHalf := false
             first := { high := 0, low := 0, flat := 0 }
             second := { high := 0, low := 0, flat := 0 }
             recog := g.1
             trafficGate := decide (g.2 = .startCompletion ∨ (g.2 = .nothing ∧ r.tap.trafficGate = true))
             counters :=
               { good := up (g.2 = .outcome .good) r.tap.counters.good
                 badCheck := up (g.2 = .outcome .badCheck) r.tap.counters.badCheck
                 broken := up (g.2 = .outcome .broken) r.tap.counters.broken
                 overlong := up (g.2 = .outcome .overlong) r.tap.counters.overlong
                 junk := up (c = .junk) r.tap.counters.junk } } }
       let occurrences :=
         (byClass.2.toList ++ byFrame.2.1.toList).map (Occurrence.condition p) ++
           if byFrame.2.2 = true then [.budget p] else []
       exec (.symbolDelivery p first second code) s =
         .next ((v.raiseAll occurrences).symbolBoundary p c code).arbitrate))

/-- R16, COUNTS: the reply carries the five counters of the port, least significant byte first; with ZERO they are then
0, with KEEP they stand, and nothing else changes. A port outside 0..7 and an unknown option are refused with RANGE. A
repeat answered from the reply cache changes no counter. -/
def Obligations.CountsReadsAndZeroes : Prop :=
  ∀ (tag choice : Byte) (p : PortId) (s : State),
    let a := s.frameArrives
    let k := (a.port p).tap.counters
    (s.Executes 0x14 tag → choice = 0 ∨ choice = 1 →
      exec (.counts tag [portByte p, choice]) s =
        .next
          ((if choice = 1 then
              a.setPort p { a.port p with
                tap := { (a.port p).tap with
                  counters := { good := 0, badCheck := 0, broken := 0, overlong := 0, junk := 0 } } }
            else a).reply 0x14 tag
            (.ok (portByte p :: (le 4 k.good.toNat ++ le 4 k.badCheck.toNat ++ le 4 k.broken.toNat ++
              le 4 k.overlong.toNat ++ le 4 k.junk.toNat)))).arbitrate) ∧
    (s.Executes 0x14 tag → choice ≠ 0 → choice ≠ 1 → Refuses (.counts tag [portByte p, choice]) 0x14 tag .range 3 s) ∧
    (s.Executes 0x14 tag → ∀ b : Byte, 8 ≤ b.toNat → Refuses (.counts tag [b, choice]) 0x14 tag .range 2 s) ∧
    ∀ body : List Byte, s.link.resetPending = false → s.link.cached 0x14 tag = some body →
      s.link.replies.length < 4 →
      exec (.counts tag [portByte p, choice]) s =
        .next ({ a with link := { a.link with replies := s.link.replies ++ [body] } }).arbitrate

/-! ## Chapter 2: the line classifier -/

/-- A delivered class in the classifier (2.2 to 2.4): the runs, the noise level and its drain timer, the one
transition of the highest rank that a met criterion makes, the entry's timestamp and dwell, and the QUIET gate. In
DARK nothing changes. The jabber limit is 8 times the frame limit plus 64. A start-delimiter completion and a frame
outcome (2.3, 2.5): TRAFFIC is entered from UNSEEN and QUIET, and from NOISY at level 0; a bad frame spends one unit
of the budget, and the last unit raises the budget occurrence, reloads the budget and restarts the window. -/
def Obligations.ClassifierTakesSymbols : Prop :=
  (∀ (now : Word32) (q : Params) (c : SymClass) (r : CondRec),
     (r.condition = .dark → r.takeClass now q c = (r, none)) ∧
     (r.condition ≠ .dark → r.quietRun ≤ 24 → r.activeRun ≤ 65535 → r.noiseLevel ≤ q.noiseCeiling →
       let quietRun := if c = .quiet then min 24 (r.quietRun + 1) else 0
       let quiet := quietRun = 24
       let activeRun := if quiet then 0 else min 65535 (r.activeRun + 1)
       let level := if c = .junk then min q.noiseCeiling (r.noiseLevel + 1) else r.noiseLevel
       let noise := c = .junk ∧ level = q.noiseCeiling
       let jabber := 8 * q.frameLimit + 64 < activeRun
       let calm := r.condition = .unseen ∨ r.condition = .quiet ∨ r.condition = .traffic
       let entered : Option Condition :=
         if calm ∨ r.condition = .noisy then
           if jabber then some .jabber
           else if calm ∧ noise then some .noisy
           else if quiet ∧ (r.condition = .unseen ∨ r.condition = .traffic ∨ (r.condition = .noisy ∧ level = 0)) then
             some .quiet
           else none
         else if quiet then (if level = q.noiseCeiling then some .noisy else some .quiet)
         else none
       r.takeClass now q c =
         ({ r with
            condition := entered.getD r.condition
            cause := if entered.isSome then .observed else r.cause
            entryTime := if entered.isSome then now else r.entryTime
            dwell := if entered.isSome then 0 else r.dwell
            dwellLeft := if entered.isSome then 20000 else r.dwellLeft
            quietRun := quietRun
            activeRun := activeRun
            noiseLevel := level
            drain :=
              if c = .junk ∧ r.noiseLevel = 0 ∧ 0 < q.noiseCeiling then some (q.drainInterval * ticksPerMs) else r.drain
            quietGate := decide (entered.getD r.condition = .quiet ∧ c = .quiet) }, entered))) ∧
  ∀ (now : Word32) (q : Params) (r : CondRec),
    r.takeIndication now q .nothing = (r, none, false) ∧
    r.takeIndication now q (.outcome .good) = (r, none, false) ∧
    (r.condition = .unseen ∨ r.condition = .quiet ∨ (r.condition = .noisy ∧ r.noiseLevel = 0) →
      r.takeIndication now q .startCompletion =
        ({ r with
           condition := .traffic, cause := .observed, entryTime := now, dwell := 0, dwellLeft := 20000
           quietGate := false }, some .traffic, false)) ∧
    (r.condition = .traffic ∨ r.condition = .jabber ∨ r.condition = .dark ∨ (r.condition = .noisy ∧ 0 < r.noiseLevel) →
      r.takeIndication now q .startCompletion = (r, none, false)) ∧
    ∀ o : FrameOutcome, o ≠ .good →
      (q.errorBudget = 0 ∨ r.budgetLeft = 0 ∨ r.condition = .dark →
        r.takeIndication now q (.outcome o) = (r, none, false)) ∧
      (0 < q.errorBudget → 1 < r.budgetLeft → r.condition ≠ .dark →
        r.takeIndication now q (.outcome o) = ({ r with budgetLeft := r.budgetLeft - 1 }, none, false)) ∧
      (0 < q.errorBudget → r.budgetLeft = 1 → r.condition ≠ .dark →
        r.takeIndication now q (.outcome o) =
          ({ r with
             budgetLeft := q.errorBudget
             budgetTimer :=
               if q.budgetWindow = 0 then r.budgetTimer else some (q.budgetWindow * ticksPerSecond) }, none, true))

/-- POWER_SENSE_CHANGE (2.2): the signal is stored; on a closed switch the sense timer starts at LOW outside DARK and
at GOOD in DARK (OBSERVED), and the other level stops it. DARK (SWITCHED) and an open switch take no account of it.
SENSE_TIMER_EXPIRY (2.2, 2.3): after the rest of the 2 ms, power loss enters DARK (OBSERVED) with level and runs at 0
and a DARK occurrence, and power return in DARK enters UNSEEN with none. A stopped timer does not expire. The time
that passes first: log 2. -/
def Obligations.PowerSenseIsDebounced : Prop :=
  (∀ (p : PortId) (good : Bool) (s : State),
     let r := s.port p
     (r.powerGood = good → exec (.powerSenseChange p good) s = .next s) ∧
     (r.powerGood ≠ good →
       exec (.powerSenseChange p good) s =
         .next (s.setPort p { r with
           powerGood := good
           cond := { r.cond with
             sense :=
               if s.closed p = false then r.cond.sense
               else if r.cond.condition ≠ .dark then (if good then none else some 0)
               else if r.cond.cause = .observed then (if good then some 0 else none)
               else r.cond.sense } }))) ∧
  ∀ (p : PortId) (s : State),
    ((s.port p).cond.sense = none → exec (.senseTimerExpiry p) s = .next s) ∧
    ∀ run : Nat, (s.port p).cond.sense = some run →
      let e := s.elapse (4000 - run)
      let r := e.port p
      ((s.port p).cond.condition ≠ .dark →
        exec (.senseTimerExpiry p) s =
          .next (((e.setPort p { r with cond := { r.cond with
            condition := .dark, cause := .observed, entryTime := e.timebase, dwell := 0, dwellLeft := 20000
            noiseLevel := 0, drain := none, activeRun := 0, quietRun := 0, sense := none
            quietGate := false } }).quietGateClosed p).raise (.condition p .dark)).arbitrate) ∧
      ((s.port p).cond.condition = .dark →
        exec (.senseTimerExpiry p) s =
          .next ((e.setPort p { r with cond := { r.cond with
            condition := .unseen, cause := .observed, entryTime := e.timebase, dwell := 0, dwellLeft := 20000
            sense := none, quietGate := false } }).quietGateClosed p).arbitrate)

/-- DRAIN_EXPIRY (2.2) lowers the level by 1 and restarts the timer while the level is above 0; BUDGET_WINDOW_EXPIRY
(2.5) reloads the budget and starts another window. A stopped timer does not expire. Nothing but the classifier's
record of that port changes, besides the time that passes. DWELL_STEP (2.3): the dwell rises by 1 and the reaction unit
gets the offer of the new dwell; at 65535 the dwell stands and no offer is made. The time that passes first: log 2. -/
def Obligations.ClassifierTimersExpire : Prop :=
  (∀ (p : PortId) (s : State),
     ((s.port p).cond.drain = none → exec (.drainExpiry p) s = .next s) ∧
     (∀ left : Nat, (s.port p).cond.drain = some left →
       let e := s.elapse left
       let r := e.port p
       exec (.drainExpiry p) s =
         .next (e.setPort p { r with cond := { r.cond with
           noiseLevel := r.cond.noiseLevel - 1
           drain := if r.cond.noiseLevel ≤ 1 then none else some (r.params.drainInterval * ticksPerMs) } })) ∧
     ((s.port p).cond.budgetTimer = none → exec (.budgetWindowExpiry p) s = .next s) ∧
     ∀ left : Nat, (s.port p).cond.budgetTimer = some left →
       let e := s.elapse left
       let r := e.port p
       exec (.budgetWindowExpiry p) s =
         .next (e.setPort p { r with cond := { r.cond with
           budgetLeft := r.params.errorBudget
           budgetTimer :=
             if r.params.budgetWindow = 0 then none else some (r.params.budgetWindow * ticksPerSecond) } })) ∧
  ∀ (p : PortId) (s : State),
    let e := s.elapse (s.port p).cond.dwellLeft
    let r := e.port p
    (65535 ≤ (s.port p).cond.dwell → exec (.dwellStep p) s = .next s) ∧
    ((s.port p).cond.dwell < 65535 →
      exec (.dwellStep p) s =
        .next ((e.setPort p { r with cond := { r.cond with dwell := r.cond.dwell + 1, dwellLeft := 20000 } }).raise
          (.dwell p r.cond.condition (r.cond.dwell + 1))).arbitrate)

/-- PORT_SET (2.6) on an ISOLATED or JOINED port with every named value in range: the named parameters take their
values together, a lower ceiling brings the level down, a ceiling at or below a level above 0 enters NOISY from
UNSEEN, QUIET and TRAFFIC, a named budget or window reloads the budget, and lowered max retries bring the retries
down. The NOISY occurrence is handed on once all of it is written (log 23). -/
def Obligations.PortSetWritesParameters : Prop :=
  ∀ (tag : Byte) (p : PortId) (payload : List Byte) (s : State), s.Executes 0x10 tag →
    payload.length = 14 → byteAt payload 0 = portByte p → u16 payload 1 < 512 →
    (s.port p).switch.state = .isolated ∨ (s.port p).switch.state = .joined →
    let named := fun n => (u16 payload 1).testBit n
    (named 0 = true → 1 ≤ u8 payload 3) → (named 1 = true → 1 ≤ u8 payload 4) →
    (named 2 = true → 16 ≤ u16 payload 5 ∧ u16 payload 5 ≤ 511) → (named 5 = true → 1 ≤ u8 payload 9) →
    (named 6 = true → 1 ≤ u8 payload 10) → (named 7 = true → u16 payload 11 ≤ 4095) →
    (named 8 = true → 1 ≤ u8 payload 13 ∧ u8 payload 13 ≤ 15) →
    let a := s.frameArrives
    let r := s.port p
    let q : Params :=
      { noiseCeiling := if named 0 then u8 payload 3 else r.params.noiseCeiling
        drainInterval := if named 1 then u8 payload 4 else r.params.drainInterval
        frameLimit := if named 2 then u16 payload 5 else r.params.frameLimit
        errorBudget := if named 3 then u8 payload 7 else r.params.errorBudget
        budgetWindow := if named 4 then u8 payload 8 else r.params.budgetWindow
        holdTime := if named 5 then u8 payload 9 else r.params.holdTime
        settleTime := if named 6 then u8 payload 10 else r.params.settleTime
        probeLimit := if named 7 then u16 payload 11 else r.params.probeLimit
        maxRetries := if named 8 then u8 payload 13 else r.params.maxRetries }
    let noisy := named 0 = true ∧ r.cond.noiseLevel ≠ 0 ∧ q.noiseCeiling ≤ r.cond.noiseLevel ∧
      (r.cond.condition = .unseen ∨ r.cond.condition = .quiet ∨ r.cond.condition = .traffic)
    let reload := named 3 = true ∨ named 4 = true
    let v := a.setPort p { r with
      params := q
      switch := { r.switch with retries := if named 8 then min r.switch.retries q.maxRetries else r.switch.retries }
      cond := { r.cond with
        condition := if noisy then .noisy else r.cond.condition
        cause := if noisy then .observed else r.cond.cause
        entryTime := if noisy then s.timebase else r.cond.entryTime
        dwell := if noisy then 0 else r.cond.dwell
        dwellLeft := if noisy then 20000 else r.cond.dwellLeft
        noiseLevel := if named 0 then min r.cond.noiseLevel q.noiseCeiling else r.cond.noiseLevel
        budgetLeft := if reload then q.errorBudget else r.cond.budgetLeft
        budgetTimer :=
          if reload then (if q.budgetWindow = 0 then none else some (q.budgetWindow * ticksPerSecond))
          else r.cond.budgetTimer
        quietGate := if noisy then false else r.cond.quietGate } }
    exec (.portSet tag payload) s =
      .next
        (((if noisy then (v.quietGateClosed p).raise (.condition p .noisy) else v.quietGateClosed p).reply 0x10 tag
          (.ok [])).arbitrate)

/-! ## Chapter 3: the measurement engine -/

/-- The value of a completed job (3.3): the sum at shift 0, else the sum divided by 2^shift with halves rounded up; the
ranges of the sum and of the value for up to 2^8 samples. -/
def Obligations.JobValueRounds : Prop :=
  (∀ sum : Nat, jobValue 0 sum = sum) ∧
  (∀ shift sum : Nat, 1 ≤ shift → jobValue shift sum = (sum + 2 ^ (shift - 1)) / 2 ^ shift) ∧
  ∀ (e shift : Nat) (codes : List Code), e ≤ 8 → codes.length = 2 ^ e →
    let sum := (codes.map BitVec.toNat).sum
    sum ≤ 2 ^ e * 4095 ∧ jobValue shift sum ≤ 1048320 ∧ jobValue e sum ≤ 4095

/-- JOB_START (3.3, 3.4) is the engine's look at its sources, which the other events of the part bring about too. On
a free converter the lowest waiting probe starts first, then a spot head with a free reservation, then the parked job
resumes, then the entry on offer; with nothing ready the engine does nothing. The job's fields are those of the table
of 3.2, the multiplexer moves to it, and it settles. Within the hand-over of a completion the engine waits (log 8).
-/
def Obligations.JobStartChooses : Prop :=
  ∀ s : State,
    exec .jobStart s = .next s.wakeEngine.arbitrate ∧ (s.engine.handingOver = true → s.wakeEngine = s) ∧
    (s.engine.handingOver = false → s.engine.active = none →
      let starts := fun (t : State) => s.wakeEngine = t ∧ exec .jobStart s = .next t.arbitrate
      (∀ p : PortId, s.NoPassEnd → (s.port p).switch.slot = .waiting →
        (∀ q : PortId, q.val < p.val → (s.port q).switch.slot ≠ .waiting) → s.closed p = true →
        starts { s.setPort p { s.port p with switch := { (s.port p).switch with slot := .inEngine } } with
          engine := s.engine.working
            { origin := .probe p, port := p, quantity := .iseg, e := 4, shift := 4, gateTimeout := 1
              report := .none, reserved := false, sum := 0, samplesDone := 0, gateWait := 0, phase := .settling
              settleLeft := 100, sample := .idle } }) ∧
      ((∀ q : PortId, (s.port q).switch.slot ≠ .waiting) →
        (∀ (r : SpotRequest) (rest : List SpotRequest), s.NoPassEnd → s.spots = r :: rest →
          s.results.queue.length + s.results.reservations < 16 → s.closed r.port = true → 1 ≤ r.gateTimeout →
          starts { s with
            spots := rest
            results := { s.results with reservations := s.results.reservations + 1 }
            engine := s.engine.working
              (Job.settling ((s.port r.port).gateOpen r.quantity)
                { origin := .spot r.tag, port := r.port, quantity := r.quantity, e := r.e, shift := r.shift
                  gateTimeout := r.gateTimeout, report := .reported, reserved := true, sum := 0, samplesDone := 0
                  gateWait := 0, phase := .settling, settleLeft := 0, sample := .idle }) }) ∧
        (s.spots = [] ∨ 16 ≤ s.results.queue.length + s.results.reservations →
          (∀ j : Job, s.NoPassEnd → s.engine.parked = some j →
            j.quantity ≠ .sigamp ∨ (s.port j.port).tap.trafficGate = true ∨ j.gateWait < j.gateTimeout * ticksPerMs →
            starts { s with
              engine := Engine.working (Job.settling ((s.port j.port).gateOpen j.quantity) j)
                { s.engine with parked := none } }) ∧
          (∀ (i : SlotId) (d : SurveyEntry), s.engine.parked = none → s.survey.state = .running →
            s.survey.inPass = true → s.survey.NextIs i d →
            let reserved := d.reported && decide (s.survey.pacing = .stall)
            (reserved = true → s.results.queue.length + s.results.reservations < 16) → s.closed d.port = true →
            1 ≤ d.gateTimeout →
            starts { s with
              survey := { s.survey with cursor := i.val + 1 }
              results := { s.results with
                reservations := if reserved then s.results.reservations + 1 else s.results.reservations }
              engine := s.engine.working
                (Job.settling ((s.port d.port).gateOpen d.quantity)
                  { origin := .survey i s.survey.passNumber, port := d.port, quantity := d.quantity, e := d.e
                    shift := d.shift, gateTimeout := d.gateTimeout
                    report := if d.reported then .reported else .silent, reserved := reserved, sum := 0
                    samplesDone := 0, gateWait := 0, phase := .settling, settleLeft := 0, sample := .idle }) }) ∧
          (s.engine.parked = none → s.survey.state ≠ .running → starts s))))

/-- The survey at the engine's look at its sources (3.3, 3.5, 4.3, 4.4), with no probe waiting and no spot to start.
An entry whose port's switch is open completes PORT_OFF at its start, and in the same step the next entry starts or
the pass ends. A REPORTED entry under STALL waits while no reservation is free, and its slot is the one that STATUS
reports. A RUNNING survey between two passes offers nothing. A pass end that is due comes before the choice (log 9),
and the first entry of a pass that it starts is taken in the same step. A parked SIGAMP job that resumes on a closed
gate with its gate wait used up completes GATE_TIMEOUT at once. -/
def Obligations.SurveyEntriesStartOrWait : Prop :=
  (∀ (s : State) (i : SlotId),
    s.stallSlot = some i ↔
      s.survey.state = .running ∧ s.survey.inPass = true ∧
      (∀ j : Job, s.engine.active = some j ∨ s.engine.parked = some j → j.isSurvey = false) ∧
      s.survey.pacing = .stall ∧ 16 ≤ s.results.queue.length + s.results.reservations ∧
      ∃ d : SurveyEntry, s.survey.NextIs i d ∧ d.reported = true) ∧
  (∀ (s : State) (j : Job), s.engine.handingOver = false → s.engine.active = some j → j.isSurvey = false →
    s.wakeEngine = s.progressPass) ∧
  ∀ s : State, s.engine.handingOver = false → s.engine.active = none →
    (∀ q : PortId, (s.port q).switch.slot ≠ .waiting) → s.spots = [] →
    let taken := fun (u : State) (i : SlotId) (d : SurveyEntry) =>
      ({ u with
         survey := { u.survey with cursor := i.val + 1 }
         results := { u.results with
           reservations :=
             if d.reported && decide (u.survey.pacing = .stall) then u.results.reservations + 1
             else u.results.reservations } } : State)
    let job := fun (u : State) (i : SlotId) (d : SurveyEntry) =>
      ({ origin := .survey i u.survey.passNumber, port := d.port, quantity := d.quantity, e := d.e
         shift := d.shift, gateTimeout := d.gateTimeout, report := if d.reported then .reported else .silent
         reserved := d.reported && decide (u.survey.pacing = .stall), sum := 0, samplesDone := 0, gateWait := 0
         phase := .settling, settleLeft := 0, sample := .idle } : Job)
    let started := fun (u : State) (i : SlotId) (d : SurveyEntry) =>
      { taken u i d with
        engine := u.engine.working (Job.settling ((u.port d.port).gateOpen d.quantity) (job u i d)) }
    let fits := fun (u : State) (d : SurveyEntry) =>
      d.reported = true → u.survey.pacing = .stall → u.results.queue.length + u.results.reservations < 16
    (∀ (i : SlotId) (d : SurveyEntry), s.engine.parked = none → s.survey.state = .running → s.survey.inPass = true →
      s.survey.NextIs i d → fits s d → s.closed d.port = false →
      let off := ((taken s i d).setActive (some (job s i d))).endActive .portOff
      (∀ (k : SlotId) (f : SurveyEntry), off.survey.NextIs k f → fits off f → s.closed f.port = true →
        1 ≤ f.gateTimeout → s.wakeEngine = started off k f) ∧
      ((∀ (k : SlotId) (f : SurveyEntry), i.val < k.val → s.survey.slots[k] = some f → f.enabled = false) →
        s.survey.mode = .single ∨ (s.survey.mode = .continuous ∧ 0 < s.survey.floorLeft) ∨
          (s.survey.mode = .timed ∧ s.survey.tickPending = false) →
        s.wakeEngine = off.progressPass)) ∧
    (∀ (i : SlotId) (d : SurveyEntry), s.engine.parked = none → s.survey.NextIs i d → d.reported = true →
      s.survey.pacing = .stall → 16 ≤ s.results.queue.length + s.results.reservations → s.wakeEngine = s) ∧
    (s.engine.parked = none → s.survey.inPass = false → s.wakeEngine = s) ∧
    (s.engine.parked = none → ¬s.NoPassEnd →
      (s.progressPass.survey.inPass = false → s.wakeEngine = s.progressPass) ∧
      ∀ (i : SlotId) (d : SurveyEntry), s.progressPass.survey.inPass = true → s.progressPass.survey.NextIs i d →
        fits s.progressPass d → s.closed d.port = true → 1 ≤ d.gateTimeout →
        s.wakeEngine = started s.progressPass i d) ∧
    ∀ j : Job, s.engine.parked = some j → j.isSurvey = true → j.quantity = .sigamp →
      (s.port j.port).tap.trafficGate = false → j.gateTimeout * ticksPerMs ≤ j.gateWait →
      s.survey.state ≠ .running ∨ s.survey.inPass = false →
      s.wakeEngine =
        ({ s with
           engine := Engine.working { j with phase := .settling, settleLeft := 0, sample := .idle }
             { s.engine with parked := none } }).endActive .gateTimeout

/-- Jobs that end without a value (3.3, 5.1, 5.2). A spot that starts on an open switch completes PORT_OFF at once:
its record has no samples and no value, no place is left reserved and the multiplexer is not moved. A reserved job
that ends becomes a record with its samples and gives up its reservation; an unreserved REPORTED one (OVERWRITE)
joins a queue with room with the lost count, or a full queue in place of its oldest WAITING survey record, or is
lost, and a discard raises the lost count and DISCARD; a SILENT one leaves nothing, and a probe only empties the slot
of a PROBING port. No monitor is tested and nothing else changes. At the opening of a switch the active job on that
port ends PORT_OFF, then the parked job on that port, jobs on other ports are not touched, and the engine chooses. -/
def Obligations.JobsEndWithoutValue : Prop :=
  (∀ (r : SpotRequest) (s : State), s.engine.handingOver = false → s.engine.active = none → s.engine.parked = none →
     (∀ q : PortId, (s.port q).switch.slot ≠ .waiting) → s.survey.state ≠ .running → s.spots = [r] →
     s.results.queue.length + s.results.reservations < 16 → s.closed r.port = false →
     exec .jobStart s =
       .next
         ({ s with
            spots := []
            results := { s.results with
              nextId := s.results.nextId + 1
              queue := s.results.queue ++
                [({ id := s.results.nextId, origin := .spot r.tag, port := r.port, quantity := r.quantity
                    status := .portOff, samples := 0, value := none, time := s.timebase, lost := none, verdicts := []
                    send := .waiting } : ResultRec)] } }).arbitrate) ∧
  (∀ (j : Job) (status : JobStatus) (s : State), s.engine.active = some j →
     let freed := s.setActive none
     (j.isProbe = false → freed.EndsValueless j status (s.endActive status)) ∧
     ∀ p : PortId, j.origin = .probe p →
       ((s.port p).switch.state ≠ .probing → s.endActive status = freed) ∧
       ((s.port p).switch.state = .probing →
         s.endActive status =
           freed.setPort p { s.port p with switch := { (s.port p).switch with slot := .empty } })) ∧
  (∀ (p : PortId) (s : State),
     s.engineOpening p = (((s.endActiveOn p).endParkedOn p)).wakeEngine ∧
     (∀ j : Job, s.engine.active = some j → j.port = p → s.endActiveOn p = s.endActive .portOff) ∧
     (s.engine.active = none → s.endActiveOn p = s) ∧
     (∀ j : Job, s.engine.active = some j → j.port ≠ p → s.endActiveOn p = s) ∧
     (s.engine.parked = none → s.endParkedOn p = s) ∧
     (∀ j : Job, s.engine.parked = some j → j.port ≠ p → s.endParkedOn p = s) ∧
     ∀ j : Job, s.engine.parked = some j → j.port = p → j.isProbe = false →
       (s.setParked none).EndsValueless j .portOff (s.endParkedOn p))

/-- Preemption and parking (3.5): an active survey job yields to a waiting probe or a startable spot head in the same
step. KEEP keeps its sum, samples and gate wait, RESTART sets them to 0, and both keep its reservation. A probe or spot
job is not preempted. -/
def Obligations.SurveyJobYields : Prop :=
  ∀ (j : Job) (s : State), s.engine.handingOver = false → s.engine.active = some j →
    (j.isSurvey = false → s.NoPassEnd → exec .jobStart s = .next s.arbitrate) ∧
    (j.isSurvey = true →
      let parked : Job :=
        match s.survey.policy with
        | .keep => { j with phase := .settling, settleLeft := 0, sample := .idle }
        | .restart =>
          { j with phase := .settling, settleLeft := 0, sample := .idle, sum := 0, samplesDone := 0, gateWait := 0 }
      (∀ p : PortId, (s.port p).switch.slot = .waiting →
        (∀ q : PortId, q.val < p.val → (s.port q).switch.slot ≠ .waiting) → s.closed p = true →
        exec .jobStart s =
          .next
            ({ s.setPort p { s.port p with switch := { (s.port p).switch with slot := .inEngine } } with
               engine := Engine.working
                 { origin := .probe p, port := p, quantity := .iseg, e := 4, shift := 4, gateTimeout := 1
                   report := .none, reserved := false, sum := 0, samplesDone := 0, gateWait := 0, phase := .settling
                   settleLeft := 100, sample := .idle } { s.engine with parked := some parked } }).arbitrate) ∧
      ((∀ q : PortId, (s.port q).switch.slot ≠ .waiting) →
        (∀ (r : SpotRequest) (rest : List SpotRequest), s.spots = r :: rest →
          s.results.queue.length + s.results.reservations < 16 → s.closed r.port = true → 1 ≤ r.gateTimeout →
          exec .jobStart s =
            .next
              ({ s with
                 spots := rest
                 results := { s.results with reservations := s.results.reservations + 1 }
                 engine := Engine.working
                   (Job.settling ((s.port r.port).gateOpen r.quantity)
                     { origin := .spot r.tag, port := r.port, quantity := r.quantity, e := r.e, shift := r.shift
                       gateTimeout := r.gateTimeout, report := .reported, reserved := true, sum := 0
                       samplesDone := 0, gateWait := 0, phase := .settling, settleLeft := 0, sample := .idle })
                   { s.engine with parked := some parked } }).arbitrate) ∧
        (s.spots = [] ∨ 16 ≤ s.results.queue.length + s.results.reservations →
          exec .jobStart s = .next s.arbitrate)))

/-- ENGINE_SETTLE_END (3.3): after the rest of the settle interval an ungated job begins its first sample of 20 us, and
a gated job is SAMPLING on an open gate, GATED on a closed one, and ends GATE_TIMEOUT where its gate wait is used up;
it does nothing where no job settles. GATE_TIMEOUT (3.3): after the rest of its gate timeout the GATED job ends
GATE_TIMEOUT and the engine chooses; it does nothing where no job is GATED. The time that passes first: log 2. -/
def Obligations.SettleEndsAndGateTimeouts : Prop :=
  (∀ s : State,
     (s.engine.active = none → exec .engineSettleEnd s = .next s) ∧
     ∀ j : Job, s.engine.active = some j →
       (j.phase ≠ .settling → exec .engineSettleEnd s = .next s) ∧
       (j.phase = .settling →
         let e := s.elapse j.settleLeft
         let k := { j with settleLeft := 0 }
         let gated := j.quantity = .sigamp ∨ j.quantity = .noise
         let gateOpen := if j.quantity = .sigamp then (s.port j.port).tap.trafficGate else (s.port j.port).cond.quietGate
         (¬gated →
           exec .engineSettleEnd s =
             .next ((e.setActive (some { k with phase := .sampling, sample := .timed 40 })).wakeEngine).arbitrate) ∧
         (gated → gateOpen = true →
           exec .engineSettleEnd s =
             .next ((e.setActive (some { k with phase := .sampling, sample := .idle })).wakeEngine).arbitrate) ∧
         (gated → gateOpen = false → j.gateWait < j.gateTimeout * ticksPerMs →
           exec .engineSettleEnd s =
             .next ((e.setActive (some { k with phase := .gated, sample := .idle })).wakeEngine).arbitrate) ∧
         (gated → gateOpen = false → j.gateTimeout * ticksPerMs ≤ j.gateWait →
           exec .engineSettleEnd s =
             .next (((e.setActive (some k)).endActive .gateTimeout).wakeEngine).arbitrate))) ∧
  (∀ s : State,
     (s.engine.active = none → exec .gateTimeout s = .next s) ∧
     ∀ j : Job, s.engine.active = some j →
       (j.phase ≠ .gated → exec .gateTimeout s = .next s) ∧
       (j.phase = .gated →
         exec .gateTimeout s =
           .next (((s.elapse (j.gateTimeout * ticksPerMs - j.gateWait)).endActive .gateTimeout).wakeEngine).arbitrate))

/-- SAMPLE_END (3.3): the code is added and the sample counted; the next sample begins at once, or at 2^e samples the
job completes: it leaves the active place, is handed to the block that owns its source (a probe to its port switch with
its value, another job to the result unit), and then the engine chooses. It does nothing where no timed sample is in
flight. The order of hand-over and choice is the model's (log 8), the time that passes first too (log 2). -/
def Obligations.SampleEndAccumulates : Prop :=
  ∀ (code : Code) (s : State),
    (s.engine.active = none → exec (.sampleEnd code) s = .next s) ∧
    ∀ j : Job, s.engine.active = some j →
      (j.phase ≠ .sampling ∨ (∀ left, j.sample ≠ .timed left) → exec (.sampleEnd code) s = .next s) ∧
      ∀ left : Nat, j.phase = .sampling → j.sample = .timed left →
        let e := s.elapse left
        let k := { j with sum := j.sum + code.toNat, samplesDone := j.samplesDone + 1 }
        let value := jobValue j.shift k.sum
        let freed := (e.setActive none).setHandingOver true
        (k.samplesDone ≠ 2 ^ j.e →
          exec (.sampleEnd code) s = .next (e.setActive (some { k with sample := .timed 40 })).arbitrate) ∧
        (k.samplesDone = 2 ^ j.e →
          (∀ p : PortId, j.origin = .probe p →
            exec (.sampleEnd code) s =
              .next (((freed.judgeProbe p value).setHandingOver false).wakeEngine).arbitrate) ∧
          (j.isProbe = false →
            let done := freed.handleResult { job := k, status := .ok, value := some value }
            exec (.sampleEnd code) s =
              .next (((done.1.raiseAll done.2).setHandingOver false).wakeEngine).arbitrate))

/-- Gated samples at a symbol boundary (3.3): a NOISE code is added for a QUIET symbol through which the gate stayed
open, a SIGAMP code always; the sample is then over. The next sample begins on an open gate, and on a closed one the
job is GATED, or ends where its gate wait is used up. A closing of the QUIET gate within the symbol spoils a NOISE
sample. The engine's moment in the symbol: logs 7, 26. -/
def Obligations.GatedSamplesFollowSymbols : Prop :=
  ∀ (p : PortId) (c : SymClass) (code : Code) (j : Job) (s : State), s.engine.active = some j → j.port = p →
    let added := { j with sum := j.sum + code.toNat, samplesDone := j.samplesDone + 1 }
    let gateOpen := if j.quantity = .sigamp then (s.port p).tap.trafficGate else (s.port p).cond.quietGate
    s.symbolBoundary p c code = ((s.judgeSample p c code).symbolStart p).wakeEngine ∧
    s.symbolCut p = ((s.discardSample p).symbolStart p).wakeEngine ∧
    (∀ held : Bool, j.sample = .symbol held →
      let accepted := j.quantity = .sigamp ∨ (j.quantity = .noise ∧ held = true ∧ c = .quiet)
      (¬accepted → s.judgeSample p c code = s.setActive (some { j with sample := .idle })) ∧
      (accepted → added.samplesDone ≠ 2 ^ j.e →
        s.judgeSample p c code = s.setActive (some { added with sample := .idle })) ∧
      (accepted → added.samplesDone = 2 ^ j.e → s.judgeSample p c code = s.completeOk added) ∧
      s.discardSample p = s.setActive (some { j with sample := .idle })) ∧
    (j.sample = .idle → s.judgeSample p c code = s ∧ s.discardSample p = s) ∧
    (j.quantity = .sigamp ∨ j.quantity = .noise → j.sample = .idle → j.phase ≠ .settling →
      (gateOpen = true → s.symbolStart p = s.setActive (some { j with phase := .sampling, sample := .symbol true })) ∧
      (gateOpen = false → j.phase = .gated → s.symbolStart p = s) ∧
      (gateOpen = false → j.phase = .sampling → j.gateWait < j.gateTimeout * ticksPerMs →
        s.symbolStart p = s.setActive (some { j with phase := .gated, sample := .idle })) ∧
      (gateOpen = false → j.phase = .sampling → j.gateTimeout * ticksPerMs ≤ j.gateWait →
        s.symbolStart p = s.endActive .gateTimeout)) ∧
    (j.phase = .settling → s.symbolStart p = s) ∧
    (j.quantity = .noise → j.sample = .symbol true → (s.port p).cond.quietGate = false →
      s.quietGateClosed p = s.setActive (some { j with sample := .symbol false })) ∧
    ((s.port p).cond.quietGate = true → s.quietGateClosed p = s)

/-! ## Chapter 4: the survey list and the spot queue -/

/-- A pass ends (4.3) exactly when the survey is RUNNING in a pass, no enabled entry lies at or after the cursor and no
survey job is in the engine. SINGLE then stops the survey; CONTINUOUS starts the next pass once the floor of 1 ms is
served, TIMED once a tick is pending, which clears it. The floor is held as the time left of it (log 20). -/
def Obligations.PassEndsByMode : Prop :=
  ∀ s : State,
    let due := s.survey.state = .running ∧ s.survey.inPass = true ∧
      (∀ (k : SlotId) (d : SurveyEntry), s.survey.cursor ≤ k.val → s.survey.slots[k] = some d → d.enabled = false) ∧
      (∀ j : Job, s.engine.active = some j ∨ s.engine.parked = some j → j.isSurvey = false)
    let next : Survey :=
      { s.survey with
        passNumber := s.survey.passNumber + 1, cursor := 0, inPass := true, passStart := s.timebase
        floorLeft := 2000 }
    (s.NoPassEnd ↔ ¬due) ∧
    (¬due → s.progressPass = s) ∧
    (due → s.survey.mode = .single →
      s.progressPass =
        { s with survey :=
          { s.survey with state := .stopped, inPass := false, cursor := 0, pace := none, tickPending := false } }) ∧
    (due → s.survey.mode = .continuous → 0 < s.survey.floorLeft →
      s.progressPass = { s with survey := { s.survey with inPass := false } }) ∧
    (due → s.survey.mode = .continuous → s.survey.floorLeft = 0 → s.progressPass = { s with survey := next }) ∧
    (due → s.survey.mode = .timed → s.survey.tickPending = false →
      s.progressPass = { s with survey := { s.survey with inPass := false } }) ∧
    (due → s.survey.mode = .timed → s.survey.tickPending = true →
      s.progressPass = { s with survey := { next with tickPending := false } })

/-- PASS_FLOOR_EXPIRY and PACE_TICK (4.3): the floor starts the next CONTINUOUS pass of a RUNNING survey that has none
in progress; a tick restarts the pace timer and starts a pass of a RUNNING survey that has none in progress, and
otherwise becomes pending. A survey that waits for neither is left alone. The time that passes first and the form of
the floor: logs 2, 20. -/
def Obligations.FloorAndTickStartPasses : Prop :=
  ∀ s : State,
    let v := s.survey
    let floorOver := s.elapse v.floorLeft
    (v.mode = .continuous → v.state = .running → v.inPass = false →
      exec .passFloorExpiry s =
        .next
          (({ floorOver with survey :=
              { floorOver.survey with
                passNumber := v.passNumber + 1, cursor := 0, inPass := true, passStart := floorOver.timebase
                floorLeft := 2000 } }).wakeEngine).arbitrate) ∧
    (v.mode = .continuous → v.state = .held → v.inPass = false → exec .passFloorExpiry s = .next floorOver) ∧
    (v.mode ≠ .continuous ∨ v.state = .stopped ∨ v.inPass = true → exec .passFloorExpiry s = .next s) ∧
    (v.pace = none → exec .paceTick s = .next s) ∧
    ∀ left : Nat, v.pace = some left →
      let e := s.elapse left
      (v.state = .running → v.inPass = false →
        exec .paceTick s =
          .next
            (({ e with survey :=
                { e.survey with
                  pace := some (v.interval * ticksPerMs), passNumber := v.passNumber + 1, cursor := 0
                  inPass := true, passStart := e.timebase, floorLeft := 2000 } }).wakeEngine).arbitrate) ∧
      ((v.state = .running ∧ v.inPass = true) ∨ v.state = .held →
        exec .paceTick s =
          .next
            (({ e with survey :=
                { e.survey with pace := some (v.interval * ticksPerMs), tickPending := true } }).wakeEngine).arbitrate)

/-- SURVEY_PUT of a STOPPED survey (4.1): every slot of the range takes its description, EMPTY or an entry, and every
other slot and everything else stands; the reply carries the first slot and the count. -/
def Obligations.SurveyPutWritesSlots : Prop :=
  ∀ (tag : Byte) (payload : List Byte) (s : State), s.Executes 0x20 tag →
    let first := u8 payload 0
    let count := u8 payload 1
    let field := fun k n => u8 payload (2 + 9 * k + n)
    let gate := fun k => u16 payload (2 + 9 * k + 5)
    1 ≤ count → count ≤ 16 → first < 48 → first + count ≤ 48 → payload.length = 2 + 9 * count →
    (∀ k, k < count → field k 0 = 0 ∨
      (field k 0 = 1 ∧ field k 1 < 8 ∧ field k 2 < 5 ∧ field k 3 ≤ 8 ∧ field k 4 ≤ 8 ∧ 1 ≤ gate k ∧ field k 7 < 2 ∧
        field k 8 < 2)) →
    s.survey.state = .stopped →
    ∃ slots : Vector (Option SurveyEntry) 48,
      exec (.surveyPut tag payload) s =
        .next
          (({ s.frameArrives with survey := { s.survey with slots := slots } }).reply 0x20 tag
            (.ok [byteAt payload 0, byteAt payload 1])).arbitrate ∧
      (∀ i : SlotId, i.val < first ∨ first + count ≤ i.val → slots[i] = s.survey.slots[i]) ∧
      ∀ k, k < count → ∀ i : SlotId, i.val = first + k →
        (field k 0 = 0 → slots[i] = none) ∧
        (field k 0 = 1 →
          ∃ d, slots[i] = some d ∧ d.port.val = field k 1 ∧ quantityCode d.quantity = field k 2 ∧ d.e = field k 3 ∧
            d.shift = field k 4 ∧ d.gateTimeout = gate k ∧ d.reported = decide (field k 7 = 0) ∧
            d.enabled = decide (field k 8 = 1))

/-- SURVEY_RUN of a STOPPED survey with an enabled entry (4.2): the parameters are stored, the lost count is 0, no tick
is pending, the first pass starts at once, and only TIMED starts the pace timer. The reply carries the pass number. The
form of the floor: log 20. -/
def Obligations.SurveyRunStartsPass : Prop :=
  ∀ (tag : Byte) (mode : SurveyMode) (pacing : Pacing) (policy : PreemptPolicy) (lo hi : Byte) (s : State),
    s.Executes 0x22 tag → s.survey.state = .stopped →
    (∃ (i : SlotId) (d : SurveyEntry), s.survey.slots[i] = some d ∧ d.enabled = true) →
    let interval := lo.toNat + 256 * hi.toNat
    10 ≤ interval →
    let number := s.survey.passNumber + 1
    exec (.surveyRun tag [modeCode mode, pacingCode pacing, policyCode policy, lo, hi]) s =
      .next
        ((({ s.frameArrives with survey :=
            { s.survey with
              state := .running, mode := mode, pacing := pacing, policy := policy, interval := interval, lost := 0
              tickPending := false, cursor := 0, inPass := true, passNumber := number, passStart := s.timebase
              pace := if mode = SurveyMode.timed then some (interval * ticksPerMs) else none
              floorLeft := 2000 } }).wakeEngine).reply 0x22 tag (.ok (le 2 number.toNat))).arbitrate

/-- SURVEY_HOLD (4.2) moves a RUNNING survey to HELD and keeps every other field of the survey record, the pace timer
with it, every job in the engine and the rest of the part; no entry is on offer then. SURVEY_RESUME moves a HELD
survey to RUNNING. A pass in progress goes on, or ends if it is over; with none in progress, one starts in TIMED if a
tick is pending and in CONTINUOUS if the floor is served. The engine then looks at the offer. -/
def Obligations.SurveyHoldAndResume : Prop :=
  (∀ (tag : Byte) (s : State), s.Executes 0x23 tag → s.survey.state = .running →
     let v := { s.frameArrives with survey := { s.survey with state := .held } }
     exec (.surveyHold tag []) s = .next (v.reply 0x23 tag (.ok [])).arbitrate ∧ v.offer = none) ∧
  (∀ (tag : Byte) (s : State), s.Executes 0x24 tag → s.survey.state = .held →
     let v : Survey := { s.survey with state := .running }
     let starts := (s.survey.mode = .timed ∧ s.survey.tickPending = true) ∨
       (s.survey.mode = .continuous ∧ s.survey.floorLeft = 0)
     (s.survey.inPass = true →
       exec (.surveyResume tag []) s =
         .next
           (((({ s.frameArrives with survey := v }).progressPass).wakeEngine).reply 0x24 tag (.ok [])).arbitrate) ∧
     (s.survey.inPass = false → ¬starts →
       exec (.surveyResume tag []) s =
         .next ((({ s.frameArrives with survey := v }).wakeEngine).reply 0x24 tag (.ok [])).arbitrate) ∧
     (s.survey.inPass = false → starts →
       exec (.surveyResume tag []) s =
         .next
           ((({ s.frameArrives with survey :=
               { v with
                 passNumber := v.passNumber + 1, cursor := 0, inPass := true, passStart := s.timebase
                 floorLeft := 2000, tickPending := if v.mode = SurveyMode.timed then false else v.tickPending } }).wakeEngine).reply
             0x24 tag (.ok [])).arbitrate))

/-- SURVEY_STOP (4.2) of a RUNNING or HELD survey: STOPPED with no pass, cursor 0, no pace timer and no tick pending;
the survey job in the engine, active or parked, leaves with no record and its reservation is released; the pass
number and the lost count stand, and the reply carries the pass number. -/
def Obligations.SurveyStopDiscards : Prop :=
  ∀ (tag : Byte) (s : State), s.Executes 0x25 tag → s.survey.state ≠ .stopped →
    let v := { s.frameArrives with survey :=
      { s.survey with state := .stopped, inPass := false, cursor := 0, pace := none, tickPending := false } }
    let released := fun (j : Job) => { s.results with
      reservations := if j.reserved then s.results.reservations - 1 else s.results.reservations }
    let ends := fun (u : State) => exec (.surveyStop tag []) s =
      .next ((u.wakeEngine).reply 0x25 tag (.ok (le 2 s.survey.passNumber.toNat))).arbitrate
    ((∀ j, s.engine.active = some j ∨ s.engine.parked = some j → j.isSurvey = false) → ends v) ∧
    (∀ j, s.engine.active = some j → j.isSurvey = true → s.engine.parked = none →
      ends { v with engine := { s.engine with active := none }, results := released j }) ∧
    (∀ j, s.engine.parked = some j → j.isSurvey = true → (∀ k, s.engine.active = some k → k.isSurvey = false) →
      ends { v with engine := { s.engine with parked := none }, results := released j })

/-- SPOT (4.5) with a tag 1..127 and fewer than 8 spots queued: the request joins the tail, the engine looks at it,
and the reply carries the number queued after the join. SPOT_CANCEL of a tag that is queued removes every request
with it and keeps the others in their order; the reply carries the number removed, and a new head may start. -/
def Obligations.SpotQueueRequests : Prop :=
  (∀ (tag eByte shiftByte lo hi : Byte) (p : PortId) (q : Quantity) (s : State), s.Executes 0x26 tag →
     1 ≤ tag.toNat → tag.toNat ≤ 127 → eByte.toNat ≤ 8 → shiftByte.toNat ≤ 8 → 1 ≤ lo.toNat + 256 * hi.toNat →
     s.spots.length < 8 →
     exec (.spot tag [portByte p, BitVec.ofNat 8 (quantityCode q), eByte, shiftByte, lo, hi]) s =
       .next
         ((({ s.frameArrives with
              spots := s.spots ++
                [({ tag := tag, port := p, quantity := q, e := eByte.toNat, shift := shiftByte.toNat
                    gateTimeout := lo.toNat + 256 * hi.toNat } : SpotRequest)] }).wakeEngine).reply 0x26 tag
           (.ok [BitVec.ofNat 8 (s.spots.length + 1)])).arbitrate) ∧
  (∀ (tag target : Byte) (s : State), s.Executes 0x27 tag → target ≠ 0 → (∃ r ∈ s.spots, r.tag = target) →
     let removed := s.spots.filter fun r => decide (r.tag = target)
     exec (.spotCancel tag [target]) s =
       .next
         ((({ s.frameArrives with spots := s.spots.filter fun r => decide (r.tag ≠ target) }).wakeEngine).reply 0x27 tag
           (.ok [BitVec.ofNat 8 removed.length])).arbitrate)

/-! ## Chapter 5: results and window monitors -/

/-- The disposal of a completion (5.2): a reserved one becomes the newest record and gives up its reservation; an
unreserved REPORTED one joins a queue with room with the lost count, which is then 0; a full queue gives up its
oldest WAITING survey record, or else the new one is lost, and either raises the lost count and DISCARD; a SILENT one
leaves no record and takes no id. The occurrences are those of the verdicts, and then DISCARD. -/
def Obligations.ResultsAreDisposed : Prop :=
  ∀ (c : Completion) (s : State),
    let tested := s.results.test c
    let id := s.results.nextId
    let used := s.results.queue.length + s.results.reservations
    let trips := tested.2.map (Verdict.occurrence c.job.port)
    let record := fun (lost : Option Nat) =>
      ({ id := id, origin := c.job.origin, port := c.job.port, quantity := c.job.quantity, status := c.status
         samples := c.job.samplesDone, value := c.value, time := s.timebase, lost := lost, verdicts := tested.2
         send := .waiting } : ResultRec)
    let raised := min 255 (s.survey.lost + 1)
    (c.job.reserved = true → c.job.report = .reported →
      s.handleResult c =
        ({ s with results :=
           { tested.1 with
             nextId := id + 1, reservations := s.results.reservations - 1
             queue := s.results.queue ++ [record none] } }, trips)) ∧
    (c.job.reserved = false → c.job.report = .silent →
      s.handleResult c = ({ s with results := tested.1 }, trips)) ∧
    (c.job.reserved = false → c.job.report = .reported → used < 16 →
      s.handleResult c =
        ({ s with
           results :=
             { tested.1 with nextId := id + 1, queue := s.results.queue ++ [record (some s.survey.lost)] }
           survey := { s.survey with lost := 0 } }, trips)) ∧
    (c.job.reserved = false → c.job.report = .reported → 16 ≤ used → s.survey.lost ≤ 255 →
      (∀ (older newer : List ResultRec) (r : ResultRec), s.results.queue = older ++ r :: newer →
        (∀ q ∈ older, q.discardable = false) → r.discardable = true →
        s.handleResult c =
          ({ s with
             results := { tested.1 with nextId := id + 1, queue := older ++ newer ++ [record (some raised)] }
             survey := { s.survey with lost := 0 } }, trips ++ [.discard])) ∧
      ((∀ q ∈ s.results.queue, q.discardable = false) →
        s.handleResult c =
          ({ s with
             results := { tested.1 with nextId := id + 1 }
             survey := { s.survey with lost := raised } }, trips ++ [.discard])))

/-- The window monitors (5.3): an OK result is offered to all twelve in ascending index, each judges it once, and the
verdicts stand in that order. A monitor tests results of its quantity, its guarded ports and its origin kinds; a
value equal to a limit is inside. The first outside value trips, the release count of inside values in a row
releases. A result without a value tests nothing. -/
def Obligations.MonitorsTestResults : Prop :=
  (∀ (c : Completion) (u : Results), c.value = none → u.test c = (u, [])) ∧
  (∀ (c : Completion) (u : Results) (value : Nat), c.value = some value →
    (∀ i : Fin 12, (u.test c).1.monitors[i] =
      (u.monitors[i].evaluate c.job.origin c.job.port c.job.quantity value).1) ∧
    (u.test c).2 = (indexes 12).filterMap fun i =>
      (u.monitors[i].evaluate c.job.origin c.job.port c.job.quantity value).2.map fun outside =>
        { monitor := i, outside := outside }) ∧
  ∀ (m : Monitor) (o : Origin) (p : PortId) (q : Quantity) (value : Nat),
    let admitted :=
      match o with
      | .probe _ => False
      | .spot _ => m.appliesTo = .spot ∨ m.appliesTo = .both
      | .survey _ _ => m.appliesTo = .survey ∨ m.appliesTo = .both
    let tested := m.quantity = q ∧ m.guarded.getLsbD p.val = true ∧ admitted
    let outside := value < m.low ∨ m.high < value
    let port := m.ports[p]
    (¬tested → m.evaluate o p q value = (m, none)) ∧
    (tested → port.outside = false → ¬outside → m.evaluate o p q value = (m, none)) ∧
    (tested → port.outside = false → outside →
      m.evaluate o p q value =
        ({ m with ports := m.ports.set p { outside := true, insideCount := 0 } }, some true)) ∧
    (tested → port.outside = true → outside →
      m.evaluate o p q value = ({ m with ports := m.ports.set p { outside := true, insideCount := 0 } }, none)) ∧
    (tested → port.outside = true → ¬outside → port.insideCount + 1 ≠ m.releaseCount →
      m.evaluate o p q value =
        ({ m with ports := m.ports.set p { outside := true, insideCount := port.insideCount + 1 } }, none)) ∧
    (tested → port.outside = true → ¬outside → port.insideCount + 1 = m.releaseCount →
      m.evaluate o p q value =
        ({ m with ports := m.ports.set p { outside := false, insideCount := 0 } }, some false))

/-- MONITOR_SET (5.3) with every field in range and the low limit not above the high limit: all seven fields are
replaced, all eight ports are INSIDE with count 0, the other monitors stand, ALERT is reassessed, and no occurrence is
raised. -/
def Obligations.MonitorSetReplaces : Prop :=
  ∀ (tag : Byte) (m : Fin 12) (q : Quantity) (a : AppliesTo) (enable : Bool) (guarded release : Byte)
    (limits : List Byte) (s : State), s.Executes 0x30 tag →
    limits.length = 8 → u32 limits 0 ≤ u32 limits 4 → u32 limits 4 ≤ 1048575 →
    1 ≤ release.toNat → release.toNat ≤ 15 →
    ∃ monitors : Vector Monitor 12,
      exec
        (.monitorSet tag
          ([BitVec.ofNat 8 m.val, BitVec.ofNat 8 (quantityCode q), guarded] ++ limits ++
            [release, appliesCode a, flagByte enable])) s =
        .next
          (({ s.frameArrives with
              results := { s.results with monitors := monitors, alert := alertLevel monitors } }).reply 0x30 tag
            (.ok [])).arbitrate ∧
      (alertLevel monitors = true ↔
        ∃ (i : Fin 12) (p : PortId), monitors[i].alertEnable = true ∧ monitors[i].guarded.getLsbD p.val = true ∧
          monitors[i].ports[p].outside = true) ∧
      (∀ i : Fin 12, i ≠ m → monitors[i] = s.results.monitors[i]) ∧
      monitors[m] =
        { quantity := q, guarded := guarded, low := u32 limits 0, high := u32 limits 4, releaseCount := release.toNat
          appliesTo := a, alertEnable := enable, ports := Vector.replicate 8 { outside := false, insideCount := 0 } }

/-- R103: after every step ALERT is high exactly when an alert-enabled monitor has a guarded port OUTSIDE, if it was so
before; it is so right after a full reset; and STATUS reports its level. -/
def Obligations.AlertFollowsMonitors : Prop :=
  (∀ (straps : Straps) (powerGood : Vector Bool 8) (lines : Vector Level 8),
    (State.atReset straps powerGood lines).AlertLaw) ∧
  (∀ s t : State, s.AlertLaw → step s = .next t → t.AlertLaw) ∧
  ∀ s : State, s.statusBytes[39]? = some (flagByte s.results.alert)

/-! ## Chapter 6: port switching and protection -/

/-- OVERCURRENT_TRIP. In JOINED (6.2): HOLDOFF with retries 0 and the hold timer started, the forced DARK, the engine
told of the opening, and then the TRIP occurrence. In PROBING (6.3): a failed probe, whose retry step moves the port
to HOLDOFF, or at max retries (log 22) to ISOLATED with cause GIVEUP; the last probe value stands, and TRIP is handed
on before GIVEUP. An open switch senses no trip. -/
def Obligations.OvercurrentTrips : Prop :=
  (∀ (p : PortId) (s : State),
     let r := s.port p
     (s.closed p = false → exec (.overcurrentTrip p) s = .next s.arbitrate) ∧
     (r.switch.state = .joined →
       exec (.overcurrentTrip p) s =
         .next
           (((s.setPort p (r.opened s.timebase
             { r.switch with
               state := .holdoff, retries := 0, hold := some (r.params.holdTime * 10 * ticksPerMs), settle := none
               slot := .empty })).engineOpening p).raise (.trip p)).arbitrate)) ∧
  (∀ (p : PortId) (s : State),
     let r := s.port p
     let tries := r.switch.retries + 1
     r.switch.state = .probing →
     (tries < r.params.maxRetries →
       exec (.overcurrentTrip p) s =
         .next
           (((s.setPort p (r.opened s.timebase
             { r.switch with
               state := .holdoff, retries := tries, hold := some (r.params.holdTime * 10 * ticksPerMs), settle := none
               slot := .empty })).engineOpening p).raise (.trip p)).arbitrate) ∧
     (r.params.maxRetries ≤ tries →
       exec (.overcurrentTrip p) s =
         .next
           ((((s.setPort p (r.opened s.timebase
             { r.switch with
               state := .isolated, cause := .giveup, retries := tries, hold := none, settle := none
               slot := .empty })).engineOpening p).raise (.trip p)).raise (.giveup p)).arbitrate))

/-- HOLD_TIMER_EXPIRY (6.2): HOLDOFF moves to PROBING with the settle timer started and the retries kept; the switch
closes, the tap is FREE and the classifier UNSEEN. SETTLE_TIMER_EXPIRY (6.2): the probe slot of a PROBING port
becomes WAITING, together with those of the other PROBING ports whose settle timers have run out (log 35), and the
engine is told. Elsewhere both do nothing. After a full reset with the strap high (6.6) the first settle expiry, of
whichever port, finds the eight timers ending together, and port 0 is probed first. The time that passes first: log
2. -/
def Obligations.HoldAndSettleTimers : Prop :=
  (∀ (p : PortId) (s : State),
     ((s.port p).switch.state ≠ .holdoff ∨ (s.port p).switch.hold = none → exec (.holdTimerExpiry p) s = .next s) ∧
     ∀ left : Nat, (s.port p).switch.state = .holdoff → (s.port p).switch.hold = some left →
       let e := s.elapse left
       let r := e.port p
       exec (.holdTimerExpiry p) s =
         .next (e.setPort p (r.joining e.timebase
           { r.switch with
             state := .probing, hold := none, settle := some (r.params.settleTime * ticksPerMs), slot := .empty }))) ∧
  (∀ (p : PortId) (s : State),
     ((s.port p).switch.state ≠ .probing ∨ (s.port p).switch.settle = none →
       exec (.settleTimerExpiry p) s = .next s) ∧
     ∀ left : Nat, (s.port p).switch.state = .probing → (s.port p).switch.settle = some left →
       let e := s.elapse left
       ∃ v : State,
         exec (.settleTimerExpiry p) s = .next (v.wakeEngine).arbitrate ∧ v = { e with ports := v.ports } ∧
         (v.port p).switch.slot = .waiting ∧
         ∀ q : PortId,
           v.port q =
             if (e.port q).switch.state = .probing ∧ (e.port q).switch.settle = some 0 then
               { e.port q with switch := { (e.port q).switch with settle := none, slot := .waiting } }
             else e.port q) ∧
  ∀ (straps : Straps) (powerGood : Vector Bool 8) (lines : Vector Level 8) (p : PortId), straps.joinMode = true →
    ∃ t, exec (.settleTimerExpiry p) (State.atReset straps powerGood lines) = .next t ∧
      t.timebase = 20 ∧ t.engine.mux = some (0, .iseg) ∧ (t.port 0).switch.slot = .inEngine ∧
      (∃ j : Job, t.engine.active = some j ∧ j.origin = .probe 0) ∧
      ∀ q : PortId, q ≠ 0 → (t.port q).switch.slot = .waiting

/-- The verdict on an OK probe (6.3): at or below the probe limit the port is JOINED with retries 0 and nothing else is
disturbed; above it the retry step follows, to HOLDOFF or at max retries (log 22) to ISOLATED; the value is stored in
both. A port no longer PROBING is not touched. -/
def Obligations.ProbeVerdicts : Prop :=
  ∀ (p : PortId) (value : Nat) (s : State),
    let r := s.port p
    let tries := r.switch.retries + 1
    (r.switch.state ≠ .probing → s.judgeProbe p value = s) ∧
    (r.switch.state = .probing → value ≤ r.params.probeLimit →
      s.judgeProbe p value =
        s.setPort p { r with
          switch :=
            { r.switch with
              state := .joined, retries := 0, settle := none, slot := .empty, lastProbe := some value } }) ∧
    (r.switch.state = .probing → r.params.probeLimit < value → tries < r.params.maxRetries →
      s.judgeProbe p value =
        (s.setPort p (r.opened s.timebase
          { r.switch with
            state := .holdoff, retries := tries, hold := some (r.params.holdTime * 10 * ticksPerMs), settle := none
            slot := .empty, lastProbe := some value })).engineOpening p) ∧
    (r.switch.state = .probing → r.params.probeLimit < value → r.params.maxRetries ≤ tries →
      s.judgeProbe p value =
        ((s.setPort p (r.opened s.timebase
          { r.switch with
            state := .isolated, cause := .giveup, retries := tries, hold := none, settle := none, slot := .empty
            lastProbe := some value })).engineOpening p).raise (.giveup p))

/-- PORT_JOIN (6.4): ISOLATED and HOLDOFF move to PROBING with retries 0 and the settle timer started, a closing;
PROBING and JOINED are unchanged; the reply carries the port and its state after the request. PORT_ISOLATE (6.4):
every port moves to ISOLATED with cause HOST, both timers stopped and the slot empty, retries kept; from PROBING and
JOINED it is an opening; the reply names ISOLATED. Neither raises an occurrence. -/
def Obligations.PortJoinAndIsolate : Prop :=
  (∀ (tag : Byte) (p : PortId) (s : State), s.Executes 0x12 tag →
     let r := s.port p
     let a := s.frameArrives
     (s.closed p = false →
       exec (.portJoin tag [portByte p]) s =
         .next
           ((a.setPort p (r.joining s.timebase
             { r.switch with
               state := .probing, retries := 0, hold := none, settle := some (r.params.settleTime * ticksPerMs)
               slot := .empty })).reply 0x12 tag (.ok [portByte p, 2])).arbitrate) ∧
     (s.closed p = true →
       exec (.portJoin tag [portByte p]) s =
         .next (a.reply 0x12 tag (.ok [portByte p, if r.switch.state = .probing then 2 else 3])).arbitrate)) ∧
  (∀ (tag : Byte) (p : PortId) (s : State), s.Executes 0x13 tag →
     let r := s.port p
     let a := s.frameArrives
     let w := { r.switch with state := .isolated, cause := .host, hold := none, settle := none, slot := .empty }
     (s.closed p = false →
       exec (.portIsolate tag [portByte p]) s =
         .next ((a.setPort p { r with switch := w }).reply 0x13 tag (.ok [portByte p, 0])).arbitrate) ∧
     (s.closed p = true →
       exec (.portIsolate tag [portByte p]) s =
         .next
           (((a.setPort p (r.opened s.timebase w)).engineOpening p).reply 0x13 tag (.ok [portByte p, 0])).arbitrate))

/-- Every step keeps the law of the port switches (6.1: an open switch means DARK (SWITCHED), an empty slot and no
settle timer, and the retries stay within max retries), and with it the law of the classifiers (2.2 to 2.4: the level
stays within its ceiling with the drain timer running exactly above 0, it is 0 in DARK, and the QUIET gate is open in
QUIET alone). -/
def Obligations.PortLawsKept : Prop :=
  ∀ s t : State, s.SwitchLaw → s.ClassifierLaw → step s = .next t → t.SwitchLaw ∧ t.ClassifierLaw

/-- The law of the places (3.2, 4.5, 5.2): reservations are those of the jobs in the engine, records and reservations
never exceed 16, the parked job is a survey job with no survey job beside it, a probe holds no reservation, and at
most 8 spots are queued. Every step keeps it. -/
def Obligations.PlaceLawKept : Prop := ∀ s t : State, s.PlaceLaw → step s = .next t → t.PlaceLaw

/-! ## Chapter 7: the reaction table -/

/-- REACTION_SET (7.2): an accepted request replaces the entry whole, with EMPTY or with the configuration, disarmed,
with fire count 0, no last fire time, outcome NONE and no holdback running; the other entries stand, and the reply
carries the index. REACTION_ARM (7.2): ARM of a set that names no EMPTY entry, and DISARM of any set, write the armed
field of the named entries and nothing else of the table; the reply carries the set of all armed entries. -/
def Obligations.ReactionTableRequests : Prop :=
  (∀ (tag : Byte) (i : EntryId) (s : State), s.Executes 0x38 tag →
     let index : Byte := BitVec.ofNat 8 i.val
     let a := s.frameArrives
     (∀ ignored : List Byte, ignored.length = 16 →
       exec (.reactionSet tag ([index, 0] ++ ignored)) s =
         .next (({ a with reactions := s.reactions.set i none }).reply 0x38 tag (.ok [index])).arbitrate) ∧
     ∀ c : ReactionConfig, c.Acceptable →
       exec (.reactionSet tag ([index, 1] ++ reactionConfigBytes c)) s =
         .next
           (({ a with reactions := s.reactions.set i (some
               { config := c, armed := false, fireCount := 0, lastFire := none, lastOutcome := .none
                 holdbackTimer := none }) }).reply 0x38 tag (.ok [index])).arbitrate) ∧
  (∀ (tag b0 b1 b2 : Byte) (arm : Bool) (s : State), s.Executes 0x3A tag →
     let named := fun (i : EntryId) => (b0.toNat + 256 * b1.toNat + 65536 * b2.toNat).testBit i.val
     (arm = true → ∀ i : EntryId, named i = true → s.reactions[i] ≠ none) →
     ∃ (reactions : Vector (Option ReactionEntry) 24) (armed : Nat),
       exec (.reactionArm tag [b0, b1, b2, flagByte arm]) s =
         .next (({ s.frameArrives with reactions := reactions }).reply 0x3A tag (.ok (le 3 armed))).arbitrate ∧
       (∀ i : EntryId, reactions[i] =
         if named i then s.reactions[i].map fun e => { e with armed := arm } else s.reactions[i]) ∧
       ∀ i : EntryId, armed.testBit i.val = true ↔ ∃ e, reactions[i] = some e ∧ e.armed = true)

/-- Which triggers an entry matches (7.1): the kind with its condition, dwell threshold or monitor, and the port unless
the trigger port is ANY; REACTED, NOTE, REFUSED and DISCARD match nothing. Which flag of which source an occurrence
latches (8.1, 10.2): entry into UNSEEN, a monitor release and a dwell offer reach none. -/
def Obligations.OccurrencesReachFlagsAndTriggers : Prop :=
  (∀ (c : ReactionConfig) (p : PortId),
     let here := c.port = 0xFF ∨ c.port.toNat = p.val
     (∀ k : Condition, c.matchesTrigger (.condition p k) = true ↔
       c.kind = .condition ∧ c.condition.toNat = conditionCode k ∧ here) ∧
     (∀ (k : Condition) (d : Nat), c.matchesTrigger (.dwell p k d) = true ↔
       c.kind = .dwell ∧ c.condition.toNat = conditionCode k ∧ c.threshold.toNat = d ∧ here) ∧
     (∀ m : Fin 12, c.matchesTrigger (.monTrip m p) = true ↔ c.kind = .monTrip ∧ c.monitor.toNat = m.val ∧ here) ∧
     (∀ m : Fin 12, c.matchesTrigger (.monRelease m p) = true ↔ c.kind = .monRelease ∧ c.monitor.toNat = m.val ∧ here) ∧
     (c.matchesTrigger (.budget p) = true ↔ c.kind = .budget ∧ here) ∧
     (c.matchesTrigger (.trip p) = true ↔ c.kind = .trip ∧ here) ∧
     (c.matchesTrigger (.giveup p) = true ↔ c.kind = .giveup ∧ here) ∧
     (c.matchesTrigger .linkLost = true ↔ c.kind = .linkLost) ∧
     c.matchesTrigger (.reacted p) = false ∧ c.matchesTrigger .refused = false ∧ c.matchesTrigger .discard = false ∧
     ∀ (source : SourceId) (i : EntryId), c.matchesTrigger (.note source i) = false) ∧
  ((∀ p : PortId,
     (Occurrence.condition p .unseen).flag = none ∧
     (Occurrence.condition p .dark).flag = some (p.castSucc, 0) ∧
     (Occurrence.condition p .quiet).flag = some (p.castSucc, 1) ∧
     (Occurrence.condition p .traffic).flag = some (p.castSucc, 2) ∧
     (Occurrence.condition p .noisy).flag = some (p.castSucc, 3) ∧
     (Occurrence.condition p .jabber).flag = some (p.castSucc, 4) ∧
     (Occurrence.budget p).flag = some (p.castSucc, 5) ∧
     (∀ m, (Occurrence.monTrip m p).flag = some (p.castSucc, 6)) ∧ (∀ m, (Occurrence.monRelease m p).flag = none) ∧
     (Occurrence.trip p).flag = some (p.castSucc, 7) ∧ (Occurrence.giveup p).flag = some (p.castSucc, 8) ∧
     (Occurrence.reacted p).flag = some (p.castSucc, 9) ∧
     (∀ i, (Occurrence.note p.castSucc i).flag = some (p.castSucc, 10)) ∧
     ∀ c d, (Occurrence.dwell p c d).flag = none) ∧
   Occurrence.discard.flag = some (8, 0) ∧ Occurrence.refused.flag = some (8, 1) ∧
   Occurrence.linkLost.flag = some (8, 2) ∧ ∀ i, (Occurrence.note 8 i).flag = some (8, 3))

/-- Firing (7.3): an occurrence is latched and then offered to the entries in ascending index. An entry fires if it is
armed, matches and has no holdback running: the action first, then the count up to 255, the time and the outcome, the
holdback, the disarming of a ONCE entry, and REFUSED for a refused action; any other entry is passed by unchanged.
HOLDBACK_EXPIRY stops the timer and nothing else. The time that passes first: log 2. -/
def Obligations.EntriesFire : Prop :=
  (∀ (o : Occurrence) (s : State), s.raise o = (indexes 24).foldl (State.offerTo o) (s.latch o)) ∧
  (∀ (o : Occurrence) (i : EntryId) (s : State),
    (s.reactions[i] = none → s.offerTo o i = s) ∧
    ∀ e : ReactionEntry, s.reactions[i] = some e →
      let fires := e.armed = true ∧ e.config.matchesTrigger o = true ∧ e.holdbackTimer = none
      let done := s.performAction i e.config o.triggerPort
      let recorded := { done.1 with reactions := done.1.reactions.set i (some
        { e with
          fireCount := if e.fireCount < 255 then e.fireCount + 1 else e.fireCount
          lastFire := some s.timebase
          lastOutcome := done.2
          holdbackTimer := if e.config.holdback = 0 then none else some (e.config.holdback.toNat * ticksPerMs)
          armed := e.config.repeats }) }
      (¬fires → s.offerTo o i = s) ∧
      (fires → done.2 = .done → s.offerTo o i = recorded) ∧
      (fires → done.2 = .refusedFull ∨ done.2 = .refusedState → s.offerTo o i = recorded.latch .refused)) ∧
  ∀ (i : EntryId) (s : State),
    ((∀ e, s.reactions[i] = some e → e.holdbackTimer = none) → exec (.holdbackExpiry i) s = .next s) ∧
    ∀ (e : ReactionEntry) (left : Nat), s.reactions[i] = some e → e.holdbackTimer = some left →
      let after := s.elapse left
      exec (.holdbackExpiry i) s =
        .next { after with reactions := after.reactions.set i (some { e with holdbackTimer := none }) }

/-- The actions (7.1, 7.2): what each does to its target and its outcome, for a target of SAME, a fixed port or DEVICE.
ISOLATE moves the port to ISOLATED with cause REACTION, an opening from PROBING and JOINED, and raises REACTED; REJOIN
moves ISOLATED and HOLDOFF to PROBING with retries 0; SPOT queues the entry's spot, or finds the queue full; NOTIFY
raises NOTE; SURVEY_HOLD and SURVEY_RESUME do what the requests of those names do, and are refused in other states. The
form of the pass floor: log 20. -/
def Obligations.ActionsAct : Prop :=
  ∀ (i : EntryId) (c : ReactionConfig) (trigger : Option PortId) (s : State),
    (∀ p : PortId, (c.target = 0xFE ∧ trigger = some p) ∨ c.target = portByte p →
      let r := s.port p
      let isolated :=
        { r.switch with state := .isolated, cause := .reaction, hold := none, settle := none, slot := .empty }
      (c.action = .isolate → s.closed p = true →
        s.performAction i c trigger =
          (((s.setPort p (r.opened s.timebase isolated)).engineOpening p).latch (.reacted p), .done)) ∧
      (c.action = .isolate → s.closed p = false →
        s.performAction i c trigger = ((s.setPort p { r with switch := isolated }).latch (.reacted p), .done)) ∧
      (c.action = .rejoin → s.closed p = false →
        s.performAction i c trigger =
          (s.setPort p (r.joining s.timebase
            { r.switch with
              state := .probing, retries := 0, hold := none, settle := some (r.params.settleTime * ticksPerMs)
              slot := .empty }), .done)) ∧
      (c.action = .rejoin → s.closed p = true → s.performAction i c trigger = (s, .done)) ∧
      (c.action = .spot → s.spots.length < 8 →
        s.performAction i c trigger =
          (({ s with spots := s.spots ++
              [({ tag := BitVec.ofNat 8 (128 + i.val), port := p, quantity := quantityOf c.spotQuantity.toNat
                  e := c.spotE.toNat, shift := c.spotShift.toNat
                  gateTimeout := c.spotGateTimeout.toNat } : SpotRequest)] }).wakeEngine, .done)) ∧
      (c.action = .spot → 8 ≤ s.spots.length → s.performAction i c trigger = (s, .refusedFull)) ∧
      (c.action = .notify → s.performAction i c trigger = (s.latch (.note p.castSucc i), .done))) ∧
    (c.target = 0xFD → c.action = .notify → s.performAction i c trigger = (s.latch (.note 8 i), .done)) ∧
    (c.action = .surveyHold → s.survey.state = .running →
      s.performAction i c trigger = ({ s with survey := { s.survey with state := .held } }, .done)) ∧
    (c.action = .surveyHold → s.survey.state ≠ .running → s.performAction i c trigger = (s, .refusedState)) ∧
    (c.action = .surveyResume → s.survey.state = .held →
      let v : Survey := { s.survey with state := .running }
      let starts := (s.survey.mode = .timed ∧ s.survey.tickPending = true) ∨
        (s.survey.mode = .continuous ∧ s.survey.floorLeft = 0)
      (s.survey.inPass = true →
        s.performAction i c trigger = ((({ s with survey := v }).progressPass).wakeEngine, .done)) ∧
      (s.survey.inPass = false → ¬starts →
        s.performAction i c trigger = (({ s with survey := v }).wakeEngine, .done)) ∧
      (s.survey.inPass = false → starts →
        s.performAction i c trigger =
          (({ s with survey :=
              { v with
                passNumber := v.passNumber + 1, cursor := 0, inPass := true, passStart := s.timebase
                floorLeft := 2000
                tickPending := if v.mode = SurveyMode.timed then false else v.tickPending } }).wakeEngine, .done))) ∧
    (c.action = .surveyResume → s.survey.state ≠ .held → s.performAction i c trigger = (s, .refusedState))

/-! ## Chapter 8: the latched summary and the event records -/

/-- R147, with the taking of an occurrence (8.1) and its event record (8.3). Each flagged occurrence takes the next
stamp and re-stamps its flag; at the end of the stamp's range the set-stamp of every SET flag and the stamp first
become 0. A NOTE, or a flag that the source's mask names, joins the source's WAITING record or makes a new one at the
tail; no other record changes, and nothing outside the summary does. The stamp is 0 after full and soft reset, and a
SUMMARY_CLEAR with a stamp above the summary's is refused with RANGE. -/
def Obligations.OccurrencesAreLatched : Prop :=
  (∀ (straps : Straps) (s t : State), exec (.fullReset straps) s = .next t → t.summary.stamp = 0) ∧
  (∀ s : State, s.resetBlocks.summary.stamp = 0) ∧
  (∀ (o : Occurrence) (s : State), o.flag = none → s.latch o = s) ∧
  (∀ (o : Occurrence) (source : SourceId) (flag : FlagId) (s : State), o.flag = some (source, flag) →
    ∃ u : Summary, s.latch o = { s with summary := u } ∧
      let ended := s.summary.stamp = 0xFFFFFFFF
      let stamp : Word32 := if ended then 1 else s.summary.stamp + 1
      let note := o.noteEntry.toList
      let admitted := flag = noteFlag source ∨ s.summary.masks[source].getLsbD flag.val = true
      u.stamp = stamp ∧ u.masks = s.summary.masks ∧
      (∀ (i : SourceId) (f : FlagId), u.flags[i][f] =
        if i = source ∧ f = flag then some stamp
        else if ended then s.summary.flags[i][f].map fun _ => 0 else s.summary.flags[i][f]) ∧
      (¬admitted → u.events = s.summary.events) ∧
      (admitted → (∀ e ∈ s.summary.events, ¬(e.source = source ∧ e.send = .waiting)) →
        u.events = s.summary.events ++
          [{ source := source, flags := 1 <<< flag.val, newest := stamp, notes := note, created := s.timebase
             send := .waiting }]) ∧
      (∀ (older newer : List EventRec) (e : EventRec), admitted → s.summary.events = older ++ e :: newer →
        (∀ k ∈ older, ¬(k.source = source ∧ k.send = .waiting)) → e.source = source → e.send = .waiting →
        ∃ notes : List Nat,
          u.events = older ++ { e with flags := e.flags ||| (1 <<< flag.val), newest := stamp, notes := notes } :: newer ∧
          (e.notes.Pairwise (· < ·) → notes.Pairwise (· < ·)) ∧ ∀ n, n ∈ notes ↔ n ∈ e.notes ∨ n ∈ note)) ∧
  ∀ (tag : Byte) (stampS : Word32) (s : State), s.Executes 0x41 tag → s.summary.stamp.toNat < stampS.toNat →
    Refuses (.summaryClear tag (le 4 stampS.toNat ++ [0])) 0x41 tag .range 2 s

/-- SUMMARY_CLEAR (8.2) with known flags of distinct sources and a stamp S within the summary's: each named flag that
is SET at or below S is cleared and every other flag stands; the reply carries the stamp and, pair by pair, the named
flags that stayed SET. NOTIFY_MASK (8.3): WRITE replaces the mask of the source, KEEP leaves it, and the reply
carries it. Neither touches an event record. -/
def Obligations.SummaryClearAndMask : Prop :=
  (∀ (tag : Byte) (stampS : Word32) (pairs : List (SourceId × Word16)) (s : State), s.Executes 0x41 tag →
    pairs.length ≤ 9 → (pairs.map Prod.fst).Nodup →
    (∀ q ∈ pairs, q.2.toNat < 2 ^ (if q.1 = 8 then 4 else 11)) → stampS.toNat ≤ s.summary.stamp.toNat →
    ∃ (flags : Vector (Vector (Option Word32) 11) 9) (survivors : SourceId → Nat),
      exec
        (.summaryClear tag
          (le 4 stampS.toNat ++ [BitVec.ofNat 8 pairs.length] ++
            pairs.flatMap fun (q : SourceId × Word16) => BitVec.ofNat 8 q.1.val :: le 2 q.2.toNat)) s =
        .next
          (({ s.frameArrives with summary := { s.summary with flags := flags } }).reply 0x41 tag
            (.ok (le 4 s.summary.stamp.toNat ++
              pairs.flatMap fun (q : SourceId × Word16) => BitVec.ofNat 8 q.1.val :: le 2 (survivors q.1)))).arbitrate ∧
      (∀ (i : SourceId) (f : FlagId), flags[i][f] =
        if (∃ q ∈ pairs, q.1 = i ∧ q.2.getLsbD f.val = true) ∧
            (∃ t, s.summary.flags[i][f] = some t ∧ t.toNat ≤ stampS.toNat) then none
        else s.summary.flags[i][f]) ∧
      ∀ q ∈ pairs, ∀ k : Nat, (survivors q.1).testBit k = true ↔
        q.2.getLsbD k = true ∧ ∃ (f : FlagId) (t : Word32), f.val = k ∧ flags[q.1][f] = some t) ∧
  ∀ (tag lo hi : Byte) (source : SourceId) (s : State), s.Executes 0x42 tag →
    (exec (.notifyMask tag [BitVec.ofNat 8 source.val, 0, lo, hi]) s =
      .next
        (s.frameArrives.reply 0x42 tag
          (.ok (BitVec.ofNat 8 source.val :: le 2 s.summary.masks[source].toNat))).arbitrate) ∧
    (lo.toNat + 256 * hi.toNat < 2 ^ (if source = 8 then 3 else 10) →
      exec (.notifyMask tag [BitVec.ofNat 8 source.val, 1, lo, hi]) s =
        .next
          (({ s.frameArrives with summary :=
              { s.summary with masks := s.summary.masks.set source (hi ++ lo) } }).reply 0x42 tag
            (.ok [BitVec.ofNat 8 source.val, lo, hi])).arbitrate)

/-- The return of SENT event records at a session loss or a HELLO (8.4): every record is WAITING, and the records of
each source merge into its oldest, with the union of the flags and of the notes, ascending and without duplicates,
the newest stamp of the newest, and the creation timestamp and the place of the oldest: the merged records stand in
the order of their sources' first records. -/
def Obligations.SentEventsMerge : Prop :=
  ∀ events : List EventRec,
    let firstPlace := fun (i : SourceId) => events.findIdx fun e => decide (e.source = i)
    (∀ e ∈ returnEvents events, e.send = .waiting) ∧
    ((returnEvents events).map EventRec.source).Nodup ∧
    (∀ i : SourceId, (∃ e ∈ returnEvents events, e.source = i) ↔ ∃ e ∈ events, e.source = i) ∧
    ((returnEvents events).Pairwise fun a b => firstPlace a.source < firstPlace b.source) ∧
    ∀ (i : SourceId) (oldest : EventRec) (newer : List EventRec),
      (events.filter fun e => decide (e.source = i)) = oldest :: newer →
      ∃ merged ∈ returnEvents events,
        merged.source = i ∧ merged.created = oldest.created ∧
        merged.newest = ((oldest :: newer).getLast (by simp)).newest ∧
        merged.flags = newer.foldl (fun flags e => flags ||| e.flags) oldest.flags ∧
        (∀ n, n ∈ merged.notes ↔ ∃ e ∈ oldest :: newer, n ∈ e.notes) ∧
        ((∀ e ∈ oldest :: newer, e.notes.Pairwise (· < ·)) → merged.notes.Pairwise (· < ·))

/-! ## Chapters 9 and 10: the host link and its messages -/

/-- HELLO (9.4) with its four parameters in range: the cache is emptied, every SENT record is WAITING again and the
event records merge, the timers and the retransmit list are at rest but for the watchdog, which starts, and the
session is OPEN with next sequence number 0. The reply carries the identity and the parameters. -/
def Obligations.HelloOpensSession : Prop :=
  ∀ (tag window ackTimeout limit watchdog : Byte) (s : State), s.Executes 0x01 tag →
    1 ≤ window.toNat → window.toNat ≤ 4 → ackTimeout ≠ 0 → 1 ≤ limit.toNat → limit.toNat ≤ 7 →
    let a := s.frameArrives
    let v := { a with
      results := { s.results with queue := s.results.queue.map fun (r : ResultRec) => { r with send := .waiting } }
      summary := { s.summary with events := returnEvents s.summary.events }
      link := { a.link with
        cache := []
        session :=
          { state := .opened, window := window.toNat, ackTimeout := ackTimeout.toNat
            retransmitLimit := limit.toNat, watchdogPeriod := watchdog.toNat, nextSeq := 0, retryCount := 0
            ackTimer := none
            watchdog := if watchdog = 0 then none else some (watchdog.toNat * 100 * ticksPerMs)
            retransmit := [] } } }
    exec (.hello tag [window, ackTimeout, limit, watchdog]) s =
      .next
        (v.reply 0x01 tag (.ok [0xB5, 0x08, 0x2E, 0x02, 0x08, window, ackTimeout, limit, watchdog])).arbitrate

/-- A valid frame and the answer to a request (9.2, 9.3, 10.4, 10.5): a frame leaves the receiver in HUNT and restarts
the watchdog of an OPEN session; the reply joins the tail of the queue and, with a tag other than 0, the cache as its
newest entry, from which the oldest of four leaves; a refused request changes nothing else. RESET (9.6) sets reset
pending. That the command is the whole frame: log 10. -/
def Obligations.RequestsAreAnswered : Prop :=
  (∀ s : State,
    let v := s.link.session
    s.frameArrives =
      { s with
        link := { s.link with
          rx := { state := .hunt, len := 0, body := [], check := [], gap := none }
          session := { v with
            watchdog :=
              if v.state ≠ .opened then v.watchdog
              else if v.watchdogPeriod = 0 then none
              else some (v.watchdogPeriod * 100 * ticksPerMs) } } }) ∧
  (∀ (kind tag : Byte) (answer : Answer) (s : State), s.link.cache.length ≤ 4 →
    let body :=
      match answer with
      | .ok payload => 0x80 :: tag :: kind :: payload
      | .refused reason detail => [0x81, tag, kind, reasonCode reason, detail]
    s.reply kind tag answer =
      { s with
        link := { s.link with
          replies := s.link.replies ++ [body]
          cache :=
          if tag = 0 then s.link.cache
          else
            (if s.link.cache.length = 4 then s.link.cache.tail else s.link.cache) ++
              [({ tag := tag, kind := kind, body := body } : CacheEntry)] } }) ∧
  (∀ (kind tag : Byte) (payload : List Byte) (s : State) (reason : Reason) (detail : Byte),
    (answerRequest kind tag payload s).2 = .refused reason detail → (answerRequest kind tag payload s).1 = s) ∧
  ∀ (tag : Byte) (s : State), s.Executes 0x03 tag →
    exec (.reset tag []) s =
      .next
        (({ s.frameArrives with link := { s.frameArrives.link with resetPending := true } }).reply 0x03 tag
          (.ok [])).arbitrate

/-- Requests that are not executed (9.3, 9.6): during reset pending a request is held, or dropped and counted where
four are held; a repeat of a cached tag and KIND gets a copy of its reply; and without a reply place a request is
dropped and counted. Nothing else happens. After the soft reset the held requests are executed in their order, and
behind a held RESET they stay held; an execution is that of the request's command. -/
def Obligations.RepeatedHeldOrDropped : Prop :=
  (∀ (f : HeldFrame) (rest : List HeldFrame) (s : State),
    executeHeld [] s = s ∧
    (s.link.resetPending = true → executeHeld (f :: rest) s = { s with link := { s.link with hold := f :: rest } }) ∧
    (s.link.resetPending = false → executeHeld (f :: rest) s = executeHeld rest (s.execute f.kind f.tag f.payload))) ∧
  (∀ (kind tag : Byte) (payload : List Byte) (c : Instr) (s : State), requestCommand kind tag payload = some c →
    s.link.resetPending = false → exec c s = .next (s.frameArrives.execute kind tag payload).arbitrate) ∧
  ∀ (kind tag : Byte) (payload : List Byte) (c : Instr) (s : State),
    requestCommand kind tag payload = some c ∨
      (requestCommand kind tag payload = none ∧ kind ≠ 0x70 ∧ c = .unknownKind kind tag payload) →
    let a := s.frameArrives
    let counted := { a with link := { a.link with
      discarded := if s.link.discarded < 65535 then s.link.discarded + 1 else s.link.discarded } }
    (s.link.resetPending = true → s.link.hold.length < 4 →
      exec c s =
        .next ({ a with link := { a.link with
          hold := s.link.hold ++ [({ kind := kind, tag := tag, payload := payload } : HeldFrame)] } }).arbitrate) ∧
    (s.link.resetPending = true → 4 ≤ s.link.hold.length → exec c s = .next counted.arbitrate) ∧
    (∀ (before after : List CacheEntry) (body : List Byte), s.link.resetPending = false → tag ≠ 0 →
      s.link.cache = before ++ { tag := tag, kind := kind, body := body } :: after →
      (∀ d ∈ before, ¬(d.tag = tag ∧ d.kind = kind)) →
      (s.link.replies.length < 4 →
        exec c s =
          .next ({ a with link := { a.link with replies := s.link.replies ++ [body] } }).arbitrate) ∧
      (4 ≤ s.link.replies.length → exec c s = .next counted.arbitrate)) ∧
    (s.link.resetPending = false → 4 ≤ s.link.replies.length →
      tag = 0 ∨ (∀ d ∈ s.link.cache, ¬(d.tag = tag ∧ d.kind = kind)) → exec c s = .next counted.arbitrate)

/-- Refusals (10.3, 10.5 and the owning chapters): UNKNOWN_KIND, LENGTH with the length received, RANGE with the
position of the field, STATE, FULL and NOT_FOUND, each with its detail. What a KIND requires is checked in order: the
first that fails refuses the request, and a request that meets them all is answered with REPLY_OK. A flag set with a
flag that its source lacks fails after the fields by themselves (log 14). -/
def Obligations.RequestsAreRefused : Prop :=
  ∀ (tag : Byte) (s : State),
    (∀ (kind : Byte) (payload : List Byte) (c : Instr), s.Executes kind tag →
      requestCommand kind tag payload = some c →
      (∀ (before after : List Requirement) (bad : Requirement),
        requestRequirements kind tag payload s = before ++ bad :: after → (∀ k ∈ before, k.holds = true) →
        bad.holds = false → Refuses c kind tag bad.reason bad.detail s) ∧
      ((∀ k ∈ requestRequirements kind tag payload s, k.holds = true) →
        ∃ (t : State) (reply : List Byte), exec c s = .next (t.reply kind tag (.ok reply)).arbitrate)) ∧
    (∀ (kind : Byte) (payload : List Byte), s.Executes kind tag → kind ≠ 0x70 →
      requestCommand kind tag payload = none →
      Refuses (.unknownKind kind tag payload) kind tag .unknownKind 0 s) ∧
    (∀ (kind : Byte) (payload : List Byte) (c : Instr) (n : Nat), s.Executes kind tag →
      requestCommand kind tag payload = some c → fixedLength kind = some n → payload.length ≠ n →
      Refuses c kind tag .length payload.length s) ∧
    (∀ payload : List Byte, s.Executes 0x20 tag →
      payload.length < 2 ∨ (1 ≤ u8 payload 1 ∧ u8 payload 1 ≤ 16 ∧ payload.length ≠ 2 + 9 * u8 payload 1) →
      Refuses (.surveyPut tag payload) 0x20 tag .length payload.length s) ∧
    (∀ payload : List Byte, s.Executes 0x41 tag →
      payload.length < 5 ∨ (u8 payload 4 ≤ 9 ∧ payload.length ≠ 5 + 3 * u8 payload 4) →
      Refuses (.summaryClear tag payload) 0x41 tag .length payload.length s) ∧
    (∀ b choice : Byte, 8 ≤ b.toNat →
      (s.Executes 0x11 tag → Refuses (.portGet tag [b]) 0x11 tag .range 2 s) ∧
      (s.Executes 0x12 tag → Refuses (.portJoin tag [b]) 0x12 tag .range 2 s) ∧
      (s.Executes 0x13 tag → Refuses (.portIsolate tag [b]) 0x13 tag .range 2 s) ∧
      (s.Executes 0x14 tag → Refuses (.counts tag [b, choice]) 0x14 tag .range 2 s)) ∧
    (∀ payload : List Byte, s.Executes 0x10 tag → payload.length = 14 → u16 payload 1 = 0 → ∀ p : PortId,
      byteAt payload 0 = portByte p → (s.port p).switch.state = .holdoff ∨ (s.port p).switch.state = .probing →
      Refuses (.portSet tag payload) 0x10 tag .state 2 s) ∧
    (∀ payload : List Byte, s.Executes 0x26 tag → payload.length = 6 →
      (tag.toNat = 0 ∨ 128 ≤ tag.toNat → Refuses (.spot tag payload) 0x26 tag .range 1 s) ∧
      (1 ≤ tag.toNat → tag.toNat ≤ 127 → u8 payload 0 < 8 → u8 payload 1 < 5 → u8 payload 2 ≤ 8 → u8 payload 3 ≤ 8 →
        1 ≤ u16 payload 4 → 8 ≤ s.spots.length → Refuses (.spot tag payload) 0x26 tag .full 0 s)) ∧
    (∀ target : Byte, s.Executes 0x27 tag →
      (target = 0 → Refuses (.spotCancel tag [target]) 0x27 tag .range 2 s) ∧
      (target ≠ 0 → (∀ r ∈ s.spots, r.tag ≠ target) → Refuses (.spotCancel tag [target]) 0x27 tag .notFound 0 s)) ∧
    (s.Executes 0x23 tag → s.survey.state ≠ .running → Refuses (.surveyHold tag []) 0x23 tag .state 0 s) ∧
    (s.Executes 0x24 tag → s.survey.state ≠ .held → Refuses (.surveyResume tag []) 0x24 tag .state 0 s) ∧
    (s.Executes 0x25 tag → s.survey.state = .stopped → Refuses (.surveyStop tag []) 0x25 tag .state 0 s) ∧
    (∀ payload : List Byte, s.Executes 0x22 tag → payload.length = 5 → u8 payload 0 < 3 → u8 payload 1 < 2 →
      u8 payload 2 < 2 → 10 ≤ u16 payload 3 →
      (s.survey.state ≠ .stopped → Refuses (.surveyRun tag payload) 0x22 tag .state 0 s) ∧
      (s.survey.state = .stopped →
        (∀ (i : SlotId) (d : SurveyEntry), s.survey.slots[i] = some d → d.enabled = false) →
        Refuses (.surveyRun tag payload) 0x22 tag .notFound 0 s)) ∧
    (∀ payload : List Byte, s.Executes 0x20 tag → payload = [0, 1] ++ List.replicate 9 0 → s.survey.state ≠ .stopped →
      Refuses (.surveyPut tag payload) 0x20 tag .state 0 s) ∧
    (∀ b : Byte, 12 ≤ b.toNat → s.Executes 0x31 tag → Refuses (.monitorGet tag [b]) 0x31 tag .range 2 s) ∧
    (∀ payload : List Byte, s.Executes 0x30 tag → payload.length = 14 → u8 payload 0 < 12 → u8 payload 1 < 5 →
      1 ≤ u8 payload 11 → u8 payload 11 ≤ 15 → u8 payload 12 < 3 → u8 payload 13 < 2 → u32 payload 3 ≤ 1048575 →
      u32 payload 7 < u32 payload 3 → Refuses (.monitorSet tag payload) 0x30 tag .range 9 s) ∧
    (∀ b : Byte, 24 ≤ b.toNat → s.Executes 0x39 tag → Refuses (.reactionGet tag [b]) 0x39 tag .range 2 s) ∧
    (∀ (b0 b1 b2 : Byte) (i : EntryId), s.Executes 0x3A tag →
      let named := fun (k : EntryId) => (b0.toNat + 256 * b1.toNat + 65536 * b2.toNat).testBit k.val
      named i = true → s.reactions[i] = none →
      (∀ k : EntryId, k.val < i.val → named k = true → s.reactions[k] ≠ none) →
      Refuses (.reactionArm tag [b0, b1, b2, 1]) 0x3A tag .state i.val s) ∧
    (∀ window ackTimeout limit watchdog : Byte, s.Executes 0x01 tag →
      let c := Instr.hello tag [window, ackTimeout, limit, watchdog]
      (window = 0 ∨ 4 < window.toNat → Refuses c 0x01 tag .range 2 s) ∧
      (1 ≤ window.toNat → window.toNat ≤ 4 → ackTimeout = 0 → Refuses c 0x01 tag .range 3 s) ∧
      (1 ≤ window.toNat → window.toNat ≤ 4 → ackTimeout ≠ 0 → limit = 0 ∨ 7 < limit.toNat →
        Refuses c 0x01 tag .range 4 s)) ∧
    (∀ lo hi : Byte, s.Executes 0x40 tag → 2 ≤ hi.toNat → Refuses (.summaryGet tag [lo, hi]) 0x40 tag .range 2 s) ∧
    ∀ (p : PortId) (lo : Byte), s.Executes 0x42 tag →
      Refuses (.notifyMask tag [portByte p, 1, lo, 4]) 0x42 tag .range 4 s

/-- The reads (2.6, 4.1, 5.3, 7.2, 8.2): PORT_GET, SURVEY_GET, MONITOR_GET, REACTION_GET and SUMMARY_GET reply with
what the part holds, in the layouts of 10.4, and change nothing else. A set has no bit above those of its members
(10.2). The nine bytes of an EMPTY slot's description are 0 (10.2; log 16). -/
def Obligations.ReadsReport : Prop :=
  ∀ (tag : Byte) (s : State),
    let a := s.frameArrives
    (∀ p : PortId, s.Executes 0x11 tag →
      let q := (s.port p).params
      let r := (s.port p).cond
      exec (.portGet tag [portByte p]) s =
        .next (a.reply 0x11 tag (.ok
          ([portByte p] ++ le 1 q.noiseCeiling ++ le 1 q.drainInterval ++ le 2 q.frameLimit ++ le 1 q.errorBudget ++
            le 1 q.budgetWindow ++ le 1 q.holdTime ++ le 1 q.settleTime ++ le 2 q.probeLimit ++ le 1 q.maxRetries ++
            le 1 (conditionCode r.condition) ++ [causeCode r.cause] ++ le 4 r.entryTime.toNat ++ le 2 r.dwell ++
            le 1 r.noiseLevel ++ le 2 r.activeRun ++ le 1 r.budgetLeft ++
            le 1 (((r.budgetTimer.getD 0) + (ticksPerSecond - 1)) / ticksPerSecond)))).arbitrate) ∧
    (∀ first count : Byte, s.Executes 0x21 tag → first.toNat < 48 → 1 ≤ count.toNat → count.toNat ≤ 16 →
      first.toNat + count.toNat ≤ 48 →
      ∃ descriptions : List (List Byte), descriptions.length = count.toNat ∧
        exec (.surveyGet tag [first, count]) s =
          .next (a.reply 0x21 tag (.ok ([first, count] ++ descriptions.flatten))).arbitrate ∧
        ∀ (k : Nat) (i : SlotId), k < count.toNat → i.val = first.toNat + k →
          (s.survey.slots[i] = none → descriptions[k]? = some (List.replicate 9 0)) ∧
          ∀ d, s.survey.slots[i] = some d →
            descriptions[k]? = some
              ([1] ++ le 1 d.port.val ++ le 1 (quantityCode d.quantity) ++ le 1 d.e ++ le 1 d.shift ++
                le 2 d.gateTimeout ++ [if d.reported then 0 else 1, if d.enabled then 1 else 0])) ∧
    (∀ m : Fin 12, s.Executes 0x31 tag →
      let n := s.results.monitors[m]
      exec (.monitorGet tag [BitVec.ofNat 8 m.val]) s =
        .next (a.reply 0x31 tag (.ok
          ([BitVec.ofNat 8 m.val] ++ le 1 (quantityCode n.quantity) ++ [n.guarded] ++ le 4 n.low ++ le 4 n.high ++
            le 1 n.releaseCount ++ [appliesCode n.appliesTo, flagByte n.alertEnable] ++
            n.ports.toList.flatMap fun t => flagByte t.outside :: le 1 t.insideCount))).arbitrate) ∧
    (∀ i : EntryId, s.Executes 0x39 tag →
      (s.reactions[i] = none →
        exec (.reactionGet tag [BitVec.ofNat 8 i.val]) s =
          .next (a.reply 0x39 tag (.ok [BitVec.ofNat 8 i.val, 0])).arbitrate) ∧
      ∀ e, s.reactions[i] = some e →
        exec (.reactionGet tag [BitVec.ofNat 8 i.val]) s =
          .next (a.reply 0x39 tag (.ok
            ([BitVec.ofNat 8 i.val, 1] ++ reactionConfigBytes e.config ++ [flagByte e.armed] ++ le 1 e.fireCount ++
              [flagByte e.lastFire.isSome] ++ le 4 (e.lastFire.getD 0).toNat ++ [outcomeCode e.lastOutcome] ++
              le 2 ((e.holdbackTimer.getD 0 + (ticksPerMs - 1)) / ticksPerMs)))).arbitrate) ∧
    ∀ lo hi : Byte, s.Executes 0x40 tag → hi.toNat < 2 →
      let named := (indexes 9).filter fun (i : SourceId) => (lo.toNat + 256 * hi.toNat).testBit i.val
      named.length ≤ 4 →
      ∃ sets : SourceId → Nat,
        exec (.summaryGet tag [lo, hi]) s =
          .next (a.reply 0x40 tag (.ok
            (le 4 s.summary.stamp.toNat ++ (indexes 9).flatMap (fun i => le 2 (sets i)) ++
              named.flatMap fun i => BitVec.ofNat 8 i.val ::
                s.summary.flags[i].toList.flatMap fun
                  | none => []
                  | some stamp => le 4 stamp.toNat))).arbitrate ∧
        (∀ (i : SourceId) (f : FlagId), f.val < (if i = 8 then 4 else 11) →
          ((sets i).testBit f.val = true ↔ s.summary.flags[i][f] ≠ none)) ∧
        ∀ i : SourceId, sets i < 2 ^ (if i = 8 then 4 else 11)

/-- STATUS (9.6, 10.7): the reply is a snapshot of 132 bytes in the order of its table, and nothing changes. -/
def Obligations.StatusSnapshot : Prop :=
  ∀ (tag : Byte) (s : State), s.Executes 0x02 tag →
    let a := s.frameArrives
    let bytes := a.statusBytes
    let v := a.link.session
    exec (.status tag []) s = .next (a.reply 0x02 tag (.ok bytes)).arbitrate ∧
    bytes.length = 132 ∧ bytes.take 4 = le 4 s.timebase.toNat ∧
    (∀ j : Job, s.engine.active = some j →
      (bytes.drop 4).take 9 =
        [sourceCode j.origin, originId j.origin] ++ le 2 ((originPass j.origin).getD 0).toNat ++
          [portByte j.port, BitVec.ofNat 8 (quantityCode j.quantity), phaseCode j.phase] ++ le 2 j.samplesDone) ∧
    (s.engine.active = none → (bytes.drop 4).take 9 = List.replicate 9 0) ∧
    (∀ j : Job, s.engine.parked = some j →
      (bytes.drop 13).take 4 = [1, originId j.origin] ++ le 2 ((originPass j.origin).getD 0).toNat) ∧
    (s.engine.parked = none → (bytes.drop 13).take 4 = [0, 0, 0, 0]) ∧
    (bytes.drop 17).take 12 =
      [surveyStateCode s.survey.state, modeCode s.survey.mode, pacingCode s.survey.pacing, policyCode s.survey.policy] ++
        le 2 s.survey.interval ++ le 1 s.survey.cursor ++ [flagByte s.survey.inPass] ++
        le 2 s.survey.passNumber.toNat ++ [flagByte s.survey.tickPending] ++ le 1 s.survey.lost ∧
    (s.stallSlot = none → (bytes.drop 29).take 1 = [0xFF]) ∧
    (∀ i : SlotId, s.stallSlot = some i → (bytes.drop 29).take 1 = [BitVec.ofNat 8 i.val]) ∧
    (bytes.drop 30).take 1 = le 1 s.spots.length ∧
    (s.spots = [] → (bytes.drop 31).take 2 = [0, 0]) ∧
    (∀ (r : SpotRequest) (rest : List SpotRequest), s.spots = r :: rest →
      (bytes.drop 31).take 2 = [r.tag, flagByte (decide (16 ≤ s.results.queue.length + s.results.reservations))]) ∧
    (bytes.drop 33).take 7 =
      le 1 (s.results.queue.filter fun r => decide (r.send = .waiting)).length ++
        le 1 (s.results.queue.filter fun r => decide (r.send ≠ .waiting)).length ++ le 1 s.results.reservations ++
        le 1 (16 - (s.results.queue.length + s.results.reservations)) ++ le 2 s.results.nextId.toNat ++
        [flagByte s.results.alert] ∧
    (∃ outside : Nat, (bytes.drop 40).take 2 = le 2 outside ∧ outside < 2 ^ 12 ∧
      ∀ m : Fin 12, outside.testBit m.val = true ↔ ∃ p : PortId, s.results.monitors[m].ports[p].outside = true) ∧
    (∀ p : PortId,
      let w := (s.port p).switch
      (bytes.drop (42 + 9 * p.val)).take 9 =
        [switchCode w.state, isolationCode w.cause] ++ le 1 w.retries ++
          le 2 ((w.hold.getD 0 + (ticksPerMs - 1)) / ticksPerMs) ++
          le 1 ((w.settle.getD 0 + (ticksPerMs - 1)) / ticksPerMs) ++ [slotCode w.slot] ++
          le 2 (w.lastProbe.getD 0xFFFF)) ∧
    (bytes.drop 114).take 6 =
      le 4 s.summary.stamp.toNat ++ le 1 (s.summary.events.filter fun e => decide (e.send = .waiting)).length ++
        le 1 (s.summary.events.filter fun e => decide (e.send ≠ .waiting)).length ∧
    bytes.drop 120 =
      [sessionCode v.state] ++ le 1 v.window ++ le 1 v.ackTimeout ++ le 1 v.retransmitLimit ++ le 1 v.watchdogPeriod ++
        [rateCode s.link.rate1 s.link.rate0, v.nextSeq] ++ le 1 s.sentNumbers.length ++ le 1 v.retryCount ++
        le 2 s.link.discarded ++ le 1 (s.link.replies.length + 1)

/-- ACK (9.5): in OPEN, one that names a SENT report removes it and every report whose number was given before it
from both queues, sets the retry count to 0, takes them out of the retransmit list and starts the ack timer afresh if
reports stay SENT, and stops it otherwise; a report frame on the line holds the timer. Any other ACK only restarts
the watchdog, and one with a payload is counted as discarded. -/
def Obligations.AckRemovesReports : Prop :=
  ∀ (seq : Byte) (s : State),
    let a := s.frameArrives
    let next := s.link.session.nextSeq
    let stays := fun (send : SendState) =>
      match send with
      | .waiting => true
      | .sent q => decide ((next - 1 - q).toNat < (next - 1 - seq).toNat)
    let queue := s.results.queue.filter fun r => stays r.send
    let events := s.summary.events.filter fun e => stays e.send
    let someSent := (∃ r ∈ queue, r.send ≠ .waiting) ∨ ∃ e ∈ events, e.send ≠ .waiting
    let reportOnLine := ∃ f, s.link.line = some f ∧ f.report = true
    (∀ payload : List Byte, payload ≠ [] →
      exec (.ack seq payload) s =
        .next ({ a with link := { a.link with
          discarded := if s.link.discarded < 65535 then s.link.discarded + 1 else s.link.discarded } }).arbitrate) ∧
    (s.link.session.state ≠ .opened ∨
      ((∀ r ∈ s.results.queue, r.send ≠ .sent seq) ∧ ∀ e ∈ s.summary.events, e.send ≠ .sent seq) →
      exec (.ack seq []) s = .next a.arbitrate) ∧
    (s.link.session.state = .opened →
      (∃ r ∈ s.results.queue, r.send = .sent seq) ∨ (∃ e ∈ s.summary.events, e.send = .sent seq) →
      ∃ timer : Option Nat,
        exec (.ack seq []) s =
          .next
            (({ a with
                results := { s.results with queue := queue }
                summary := { s.summary with events := events }
                link := { a.link with session := { a.link.session with
                  retryCount := 0
                  retransmit := s.link.session.retransmit.filter fun q =>
                    decide ((next - 1 - q).toNat < (next - 1 - seq).toNat)
                  ackTimer := timer } } }).wakeEngine).arbitrate ∧
        (reportOnLine ∨ ¬someSent → timer = none) ∧
        (¬reportOnLine → someSent → timer = some (s.link.session.ackTimeout * 10 * ticksPerMs)))

/-- The output arbiter (9.5): a busy line waits; on a free one the head of the reply queue goes first, then the head
of the retransmit list, then, in OPEN and within the window, the oldest WAITING event record and then the oldest
WAITING result record, each SENT with the next sequence number; with nothing ready the line stays idle. A report
frame holds the ack timer. -/
def Obligations.OutputArbiter : Prop :=
  ∀ s : State,
    let v := s.link.session
    (∀ f, s.link.line = some f → s.arbitrate = s) ∧
    (s.link.line = none →
      (∀ (body : List Byte) (rest : List (List Byte)), s.link.replies = body :: rest →
        s.arbitrate = { s with link := { s.link with line := some { report := false, bytes := frameBytes body } } }) ∧
      (s.link.replies = [] →
        (∀ (seq : Byte) (rest : List Byte) (f : LineFrame), v.retransmit = seq :: rest → s.sentFrame seq = some f →
          s.arbitrate =
            { s with link := { s.link with
              line := some f, session := { v with retransmit := rest, ackTimer := none } } }) ∧
        (v.retransmit = [] → v.state ≠ .opened ∨ v.window ≤ s.sentNumbers.length → s.arbitrate = s) ∧
        (v.retransmit = [] → v.state = .opened → s.sentNumbers.length < v.window →
          let numbered := fun (f : LineFrame) => { s.link with
            line := some f, session := { v with nextSeq := v.nextSeq + 1, ackTimer := none } }
          (∀ (older newer : List EventRec) (e : EventRec), s.summary.events = older ++ e :: newer →
            (∀ k ∈ older, k.send ≠ .waiting) → e.send = .waiting →
            s.arbitrate =
              { s with
                summary := { s.summary with events := older ++ { e with send := .sent v.nextSeq } :: newer }
                link := numbered { report := true, bytes := frameBytes (0x91 :: v.nextSeq :: eventPayload e) } }) ∧
          ((∀ e ∈ s.summary.events, e.send ≠ .waiting) →
            (∀ (older newer : List ResultRec) (r : ResultRec), s.results.queue = older ++ r :: newer →
              (∀ k ∈ older, k.send ≠ .waiting) → r.send = .waiting →
              s.arbitrate =
                { s with
                  results := { s.results with queue := older ++ { r with send := .sent v.nextSeq } :: newer }
                  link := numbered
                    { report := true, bytes := frameBytes (0x90 :: v.nextSeq :: resultPayload r) } }) ∧
            ((∀ r ∈ s.results.queue, r.send ≠ .waiting) → s.arbitrate = s)))))

/-- What the frames of reports carry (9.5, 10.1, 10.6). A number is sent least significant byte first. A frame is SYNC,
LEN, body and check, the check's high byte first. A RESULT report carries the fields of its record, with the presence
byte of pass, value and lost, and an EVENT report those of its own; neither depends on the record's queue state. A
retransmission carries the number and the content of the record that was sent under that number. -/
def Obligations.ReportsCarryRecords : Prop :=
  (∀ (width v : Nat),
    (le width v).length = width ∧ ∀ k, k < width → (le width v)[k]? = some (BitVec.ofNat 8 (v / 256 ^ k))) ∧
  (∀ body : List Byte,
    let check := frameCheck (BitVec.ofNat 8 body.length :: body)
    frameBytes body =
      [0xC5, BitVec.ofNat 8 body.length] ++ body ++ [check.extractLsb' 8 8, check.extractLsb' 0 8]) ∧
  (∀ (r : ResultRec) (send : SendState),
    let presence :=
      (if (originPass r.origin).isSome then 1 else 0) + (if r.value.isSome then 2 else 0) +
        (if r.lost.isSome then 4 else 0)
    let status : Byte := match r.status with
      | .ok => 0
      | .gateTimeout => 1
      | .portOff => 2
    let origin := match r.origin with
      | .survey slot _ => [0, BitVec.ofNat 8 slot.val]
      | .spot tag => [1, tag]
      | .probe p => [1, BitVec.ofNat 8 p.val]
    let pass := match r.origin with
      | .survey _ pass => le 2 pass.toNat
      | .spot _ => []
      | .probe _ => []
    resultPayload r =
      le 2 r.id.toNat ++ [BitVec.ofNat 8 presence] ++ origin ++
        [portByte r.port, BitVec.ofNat 8 (quantityCode r.quantity), status] ++ le 2 r.samples ++ le 4 r.time.toNat ++
        pass ++ (r.value.toList.flatMap fun v => le 4 v) ++ (r.lost.toList.flatMap fun n => le 1 n) ++
        le 1 r.verdicts.length ++
        r.verdicts.flatMap (fun v => [BitVec.ofNat 8 v.monitor.val, if v.outside then 1 else 0]) ∧
    resultPayload { r with send := send } = resultPayload r) ∧
  (∀ (e : EventRec) (send : SendState),
    eventPayload e =
      [BitVec.ofNat 8 e.source.val] ++ le 2 e.flags.toNat ++ le 4 e.newest.toNat ++ le 4 e.created.toNat ++
        le 1 e.notes.length ++ e.notes.map (fun n => BitVec.ofNat 8 n) ∧
    eventPayload { e with send := send } = eventPayload e) ∧
  ∀ (seq : Byte) (s : State),
    (∀ (older newer : List EventRec) (e : EventRec), s.summary.events = older ++ e :: newer →
      (∀ k ∈ older, k.send ≠ .sent seq) → e.send = .sent seq →
      s.sentFrame seq = some { report := true, bytes := frameBytes (0x91 :: seq :: eventPayload e) }) ∧
    ((∀ k ∈ s.summary.events, k.send ≠ .sent seq) →
      (∀ (older newer : List ResultRec) (r : ResultRec), s.results.queue = older ++ r :: newer →
        (∀ k ∈ older, k.send ≠ .sent seq) → r.send = .sent seq →
        s.sentFrame seq = some { report := true, bytes := frameBytes (0x90 :: seq :: resultPayload r) }) ∧
      ((∀ k ∈ s.results.queue, k.send ≠ .sent seq) → s.sentFrame seq = none))

/-- The link's own events (9.4, 9.5). FRAME_SENT frees the line: a reply leaves the head of its queue, a report
starts the ack timer afresh if a report is SENT. ACK_TIMER_EXPIRY below the limit raises the retry count and lists
all SENT reports in the order of their numbers; at the limit (log 22), as at LINK_WATCHDOG_EXPIRY, the session is
LOST: its timers stop, every SENT record is WAITING again, the event records merge, and LINKLOST is handed on. The
time that passes first: log 2. -/
def Obligations.LinkTimersAndFrameEnds : Prop :=
  (∀ s : State, s.link.line = none → exec .frameSent s = .next s) ∧
  (∀ (s : State) (f : LineFrame), s.link.line = some f →
    s.link.resetPending = false ∨ f.report = true ∨
      (∀ body rest, s.link.replies = body :: rest → byteAt body 0 ≠ 0x80 ∨ byteAt body 2 ≠ 0x03) →
    (f.report = false →
      exec .frameSent s =
        .next ({ s with link := { s.link with line := none, replies := s.link.replies.tail } }).arbitrate) ∧
    (f.report = true →
      exec .frameSent s =
        .next ({ s with link := { s.link with
          line := none
          session := { s.link.session with
            ackTimer :=
              if s.sentNumbers = [] then none
              else some (s.link.session.ackTimeout * 10 * ticksPerMs) } } }).arbitrate)) ∧
  (∀ s : State,
    let lost := fun (e : State) =>
      ({ e with
         results := { e.results with queue := e.results.queue.map fun (r : ResultRec) => { r with send := .waiting } }
         summary := { e.summary with events := returnEvents e.summary.events }
         link := { e.link with session := { e.link.session with
           state := .lost, ackTimer := none, watchdog := none, retransmit := [], retryCount := 0 } } } : State)
    (s.link.session.state ≠ .opened ∨ s.link.session.ackTimer = none → exec .ackTimerExpiry s = .next s) ∧
    (s.link.session.state ≠ .opened ∨ s.link.session.watchdog = none → exec .linkWatchdogExpiry s = .next s) ∧
    (s.link.session.state = .opened →
      (∀ left : Nat, s.link.session.ackTimer = some left →
        let e := s.elapse left
        (s.link.session.retryCount < s.link.session.retransmitLimit →
          exec .ackTimerExpiry s =
            .next ({ e with link := { e.link with session := { e.link.session with
              retryCount := s.link.session.retryCount + 1, retransmit := s.sentInOrder
              ackTimer := none } } }).arbitrate) ∧
        (s.link.session.retransmitLimit ≤ s.link.session.retryCount →
          exec .ackTimerExpiry s = .next ((lost e).raise .linkLost).arbitrate)) ∧
      ∀ left : Nat, s.link.session.watchdog = some left →
        exec .linkWatchdogExpiry s = .next ((lost (s.elapse left)).raise .linkLost).arbitrate)) ∧
  ∀ s : State, s.sentInOrder.Perm s.sentNumbers ∧
    s.sentInOrder.Pairwise fun older newer =>
      (s.link.session.nextSeq - 1 - newer).toNat ≤ (s.link.session.nextSeq - 1 - older).toNat

/-- The receiver (9.2), byte by byte: HUNT waits for SYNC, LENGTH takes 2..240, BODY takes LEN bytes, and CHECK judges
the frame. A bad LEN, a framing error outside HUNT, a mismatch, GAP_TIMER_EXPIRY and FRAME_DISCARD throw the frame
away, count it up to 65535 and hunt again. FRAME_DISCARD in any state, the discard in the byte's step and the gap timer
after SYNC: logs 11 to 13; the rest of the gap timer's time passes before its expiry: log 2. -/
def Obligations.ReceiverSteps : Prop :=
  ∀ (b : Byte) (ok : Bool) (s : State),
    let rx := s.link.rx
    let takes := fun (rx' : Receiver) =>
      exec (.byteReceived b ok) s = .next ({ s with link := { s.link with rx := rx' } }).arbitrate
    let thrown := fun (t : State) => ({ t with link := { t.link with
      rx := { state := .hunt, len := 0, body := [], check := [], gap := none }
      discarded := if t.link.discarded < 65535 then t.link.discarded + 1 else t.link.discarded } } : State)
    let discards := exec (.byteReceived b ok) s = .next (thrown s).arbitrate
    (rx.state = .hunt → ok = true → b = 0xC5 →
      takes { state := .length, len := 0, body := [], check := [], gap := some (5 * ticksPerMs) }) ∧
    (rx.state = .hunt → ok = false ∨ b ≠ 0xC5 →
      takes { state := .hunt, len := 0, body := [], check := [], gap := none }) ∧
    (rx.state ≠ .hunt → ok = false → discards) ∧
    (rx.state = .length → ok = true → 2 ≤ b.toNat → b.toNat ≤ 240 →
      takes { rx with state := .body, len := b.toNat, gap := some (5 * ticksPerMs) }) ∧
    (rx.state = .length → ok = true → b.toNat < 2 ∨ 240 < b.toNat → discards) ∧
    (rx.state = .body → ok = true → rx.body.length + 1 ≠ rx.len →
      takes { rx with body := rx.body ++ [b], gap := some (5 * ticksPerMs) }) ∧
    (rx.state = .body → ok = true → rx.body.length + 1 = rx.len →
      takes { rx with state := .check, body := rx.body ++ [b], gap := some (5 * ticksPerMs) }) ∧
    (rx.state = .check → ok = true → rx.check = [] →
      takes { rx with check := [b], gap := some (5 * ticksPerMs) }) ∧
    (∀ hi : Byte, rx.state = .check → ok = true → rx.check = [hi] →
      (hi ++ b ≠ frameCheck (BitVec.ofNat 8 rx.len :: rx.body) → discards) ∧
      (hi ++ b = frameCheck (BitVec.ofNat 8 rx.len :: rx.body) →
        exec (.byteReceived b ok) s = .next (s.takeFrame rx.body).arbitrate)) ∧
    (rx.state = .hunt ∨ rx.gap = none → exec .gapTimerExpiry s = .next s) ∧
    (∀ left : Nat, rx.state ≠ .hunt → rx.gap = some left →
      exec .gapTimerExpiry s = .next (thrown (s.elapse left))) ∧
    exec .frameDiscard s = .next (thrown s)

/-- Every frame that the part's own envelope rule builds is received whole (9.2, 10.1): from HUNT, with nothing for the
arbiter to send, the bytes of a body of 2..240 bytes end in that body being taken, as an ACK or as the request of its
KIND. That a command is its whole frame is the model's reading (logs 10, 12). -/
def Obligations.FramesAreReceivedWhole : Prop :=
  ∀ (body : List Byte) (s : State), 2 ≤ body.length → body.length ≤ 240 → s.link.rx.state = .hunt →
    s.arbitrate = s →
    s.receiveBytes (frameBytes body) = .next (s.takeFrame body).arbitrate ∧
    (∀ (kind tag : Byte) (payload : List Byte) (c : Instr), body = kind :: tag :: payload →
      requestCommand kind tag payload = some c → s.receiveBytes (frameBytes body) = exec c s) ∧
    (∀ (kind tag : Byte) (payload : List Byte), body = kind :: tag :: payload → kind ≠ 0x70 →
      requestCommand kind tag payload = none →
      s.receiveBytes (frameBytes body) = exec (.unknownKind kind tag payload) s) ∧
    ∀ (seq : Byte) (payload : List Byte), body = 0x70 :: seq :: payload →
      s.receiveBytes (frameBytes body) = exec (.ack seq payload) s

/-- Every step keeps the law of the set-stamps (8.2: none is above the summary stamp), the law of the link's queues
(9.3, 9.6: at most four replies, cached replies and held frames, and frames held only during reset pending) and the
law of the session (9.4: at most window reports are SENT in OPEN and none otherwise, when its timers and the
retransmit list are at rest). -/
def Obligations.SummaryAndLinkLawsKept : Prop :=
  (∀ s t : State, s.StampLaw → step s = .next t → t.StampLaw) ∧
  (∀ s t : State, s.LinkLaw → step s = .next t → t.LinkLaw) ∧
  ∀ s t : State, s.SessionLaw → step s = .next t → t.SessionLaw
end

