-- ==== Sys2Proof/Laws/State.lean ====
section
/-! SUPPORT. What each update of State leaves as it was, one lemma per field, so that no proof unfolds a record update;
and what it writes. -/
namespace Sys2Proof.Machine

/-! ## Fields an update leaves -/

@[simp] theorem State.modPort_timebase (s : State) (p : PortId) (f : Port → Port) : (s.modPort p f).timebase = s.timebase := rfl
@[simp] theorem State.modPort_subMs (s : State) (p : PortId) (f : Port → Port) : (s.modPort p f).subMs = s.subMs := rfl
@[simp] theorem State.modPort_joinMode (s : State) (p : PortId) (f : Port → Port) : (s.modPort p f).joinMode = s.joinMode := rfl
@[simp] theorem State.modPort_engine (s : State) (p : PortId) (f : Port → Port) : (s.modPort p f).engine = s.engine := rfl
@[simp] theorem State.modPort_survey (s : State) (p : PortId) (f : Port → Port) : (s.modPort p f).survey = s.survey := rfl
@[simp] theorem State.modPort_spots (s : State) (p : PortId) (f : Port → Port) : (s.modPort p f).spots = s.spots := rfl
@[simp] theorem State.modPort_results (s : State) (p : PortId) (f : Port → Port) : (s.modPort p f).results = s.results := rfl
@[simp] theorem State.modPort_reactions (s : State) (p : PortId) (f : Port → Port) : (s.modPort p f).reactions = s.reactions := rfl
@[simp] theorem State.modPort_summary (s : State) (p : PortId) (f : Port → Port) : (s.modPort p f).summary = s.summary := rfl
@[simp] theorem State.modPort_link (s : State) (p : PortId) (f : Port → Port) : (s.modPort p f).link = s.link := rfl
@[simp] theorem State.modPort_pending (s : State) (p : PortId) (f : Port → Port) : (s.modPort p f).pending = s.pending := rfl

@[simp] theorem State.modSwitch_timebase (s : State) (p : PortId) (f : Params → SwitchRec → SwitchRec) : (s.modSwitch p f).timebase = s.timebase := rfl
@[simp] theorem State.modSwitch_subMs (s : State) (p : PortId) (f : Params → SwitchRec → SwitchRec) : (s.modSwitch p f).subMs = s.subMs := rfl
@[simp] theorem State.modSwitch_joinMode (s : State) (p : PortId) (f : Params → SwitchRec → SwitchRec) : (s.modSwitch p f).joinMode = s.joinMode := rfl
@[simp] theorem State.modSwitch_engine (s : State) (p : PortId) (f : Params → SwitchRec → SwitchRec) : (s.modSwitch p f).engine = s.engine := rfl
@[simp] theorem State.modSwitch_survey (s : State) (p : PortId) (f : Params → SwitchRec → SwitchRec) : (s.modSwitch p f).survey = s.survey := rfl
@[simp] theorem State.modSwitch_spots (s : State) (p : PortId) (f : Params → SwitchRec → SwitchRec) : (s.modSwitch p f).spots = s.spots := rfl
@[simp] theorem State.modSwitch_results (s : State) (p : PortId) (f : Params → SwitchRec → SwitchRec) : (s.modSwitch p f).results = s.results := rfl
@[simp] theorem State.modSwitch_reactions (s : State) (p : PortId) (f : Params → SwitchRec → SwitchRec) : (s.modSwitch p f).reactions = s.reactions := rfl
@[simp] theorem State.modSwitch_summary (s : State) (p : PortId) (f : Params → SwitchRec → SwitchRec) : (s.modSwitch p f).summary = s.summary := rfl
@[simp] theorem State.modSwitch_link (s : State) (p : PortId) (f : Params → SwitchRec → SwitchRec) : (s.modSwitch p f).link = s.link := rfl
@[simp] theorem State.modSwitch_pending (s : State) (p : PortId) (f : Params → SwitchRec → SwitchRec) : (s.modSwitch p f).pending = s.pending := rfl

@[simp] theorem State.setLine_timebase (s : State) (p : PortId) (target : Level) : (s.setLine p target).timebase = s.timebase := rfl
@[simp] theorem State.setLine_subMs (s : State) (p : PortId) (target : Level) : (s.setLine p target).subMs = s.subMs := rfl
@[simp] theorem State.setLine_joinMode (s : State) (p : PortId) (target : Level) : (s.setLine p target).joinMode = s.joinMode := rfl
@[simp] theorem State.setLine_engine (s : State) (p : PortId) (target : Level) : (s.setLine p target).engine = s.engine := rfl
@[simp] theorem State.setLine_survey (s : State) (p : PortId) (target : Level) : (s.setLine p target).survey = s.survey := rfl
@[simp] theorem State.setLine_spots (s : State) (p : PortId) (target : Level) : (s.setLine p target).spots = s.spots := rfl
@[simp] theorem State.setLine_results (s : State) (p : PortId) (target : Level) : (s.setLine p target).results = s.results := rfl
@[simp] theorem State.setLine_reactions (s : State) (p : PortId) (target : Level) : (s.setLine p target).reactions = s.reactions := rfl
@[simp] theorem State.setLine_summary (s : State) (p : PortId) (target : Level) : (s.setLine p target).summary = s.summary := rfl
@[simp] theorem State.setLine_link (s : State) (p : PortId) (target : Level) : (s.setLine p target).link = s.link := rfl
@[simp] theorem State.setLine_pending (s : State) (p : PortId) (target : Level) : (s.setLine p target).pending = s.pending := rfl

@[simp] theorem State.fillSlots_timebase (s : State) : (s.fillSlots).timebase = s.timebase := rfl
@[simp] theorem State.fillSlots_subMs (s : State) : (s.fillSlots).subMs = s.subMs := rfl
@[simp] theorem State.fillSlots_joinMode (s : State) : (s.fillSlots).joinMode = s.joinMode := rfl
@[simp] theorem State.fillSlots_engine (s : State) : (s.fillSlots).engine = s.engine := rfl
@[simp] theorem State.fillSlots_survey (s : State) : (s.fillSlots).survey = s.survey := rfl
@[simp] theorem State.fillSlots_spots (s : State) : (s.fillSlots).spots = s.spots := rfl
@[simp] theorem State.fillSlots_results (s : State) : (s.fillSlots).results = s.results := rfl
@[simp] theorem State.fillSlots_reactions (s : State) : (s.fillSlots).reactions = s.reactions := rfl
@[simp] theorem State.fillSlots_summary (s : State) : (s.fillSlots).summary = s.summary := rfl
@[simp] theorem State.fillSlots_link (s : State) : (s.fillSlots).link = s.link := rfl
@[simp] theorem State.fillSlots_pending (s : State) : (s.fillSlots).pending = s.pending := rfl

@[simp] theorem State.setSlot_timebase (s : State) (p : PortId) (slot : ProbeSlot) : (s.setSlot p slot).timebase = s.timebase := rfl
@[simp] theorem State.setSlot_subMs (s : State) (p : PortId) (slot : ProbeSlot) : (s.setSlot p slot).subMs = s.subMs := rfl
@[simp] theorem State.setSlot_joinMode (s : State) (p : PortId) (slot : ProbeSlot) : (s.setSlot p slot).joinMode = s.joinMode := rfl
@[simp] theorem State.setSlot_engine (s : State) (p : PortId) (slot : ProbeSlot) : (s.setSlot p slot).engine = s.engine := rfl
@[simp] theorem State.setSlot_survey (s : State) (p : PortId) (slot : ProbeSlot) : (s.setSlot p slot).survey = s.survey := rfl
@[simp] theorem State.setSlot_spots (s : State) (p : PortId) (slot : ProbeSlot) : (s.setSlot p slot).spots = s.spots := rfl
@[simp] theorem State.setSlot_results (s : State) (p : PortId) (slot : ProbeSlot) : (s.setSlot p slot).results = s.results := rfl
@[simp] theorem State.setSlot_reactions (s : State) (p : PortId) (slot : ProbeSlot) : (s.setSlot p slot).reactions = s.reactions := rfl
@[simp] theorem State.setSlot_summary (s : State) (p : PortId) (slot : ProbeSlot) : (s.setSlot p slot).summary = s.summary := rfl
@[simp] theorem State.setSlot_link (s : State) (p : PortId) (slot : ProbeSlot) : (s.setSlot p slot).link = s.link := rfl
@[simp] theorem State.setSlot_pending (s : State) (p : PortId) (slot : ProbeSlot) : (s.setSlot p slot).pending = s.pending := rfl

@[simp] theorem State.setActive_timebase (s : State) (j : Option Job) : (s.setActive j).timebase = s.timebase := rfl
@[simp] theorem State.setActive_subMs (s : State) (j : Option Job) : (s.setActive j).subMs = s.subMs := rfl
@[simp] theorem State.setActive_joinMode (s : State) (j : Option Job) : (s.setActive j).joinMode = s.joinMode := rfl
@[simp] theorem State.setActive_ports (s : State) (j : Option Job) : (s.setActive j).ports = s.ports := rfl
@[simp] theorem State.setActive_survey (s : State) (j : Option Job) : (s.setActive j).survey = s.survey := rfl
@[simp] theorem State.setActive_spots (s : State) (j : Option Job) : (s.setActive j).spots = s.spots := rfl
@[simp] theorem State.setActive_results (s : State) (j : Option Job) : (s.setActive j).results = s.results := rfl
@[simp] theorem State.setActive_reactions (s : State) (j : Option Job) : (s.setActive j).reactions = s.reactions := rfl
@[simp] theorem State.setActive_summary (s : State) (j : Option Job) : (s.setActive j).summary = s.summary := rfl
@[simp] theorem State.setActive_link (s : State) (j : Option Job) : (s.setActive j).link = s.link := rfl
@[simp] theorem State.setActive_pending (s : State) (j : Option Job) : (s.setActive j).pending = s.pending := rfl

@[simp] theorem State.setParked_timebase (s : State) (j : Option Job) : (s.setParked j).timebase = s.timebase := rfl
@[simp] theorem State.setParked_subMs (s : State) (j : Option Job) : (s.setParked j).subMs = s.subMs := rfl
@[simp] theorem State.setParked_joinMode (s : State) (j : Option Job) : (s.setParked j).joinMode = s.joinMode := rfl
@[simp] theorem State.setParked_ports (s : State) (j : Option Job) : (s.setParked j).ports = s.ports := rfl
@[simp] theorem State.setParked_survey (s : State) (j : Option Job) : (s.setParked j).survey = s.survey := rfl
@[simp] theorem State.setParked_spots (s : State) (j : Option Job) : (s.setParked j).spots = s.spots := rfl
@[simp] theorem State.setParked_results (s : State) (j : Option Job) : (s.setParked j).results = s.results := rfl
@[simp] theorem State.setParked_reactions (s : State) (j : Option Job) : (s.setParked j).reactions = s.reactions := rfl
@[simp] theorem State.setParked_summary (s : State) (j : Option Job) : (s.setParked j).summary = s.summary := rfl
@[simp] theorem State.setParked_link (s : State) (j : Option Job) : (s.setParked j).link = s.link := rfl
@[simp] theorem State.setParked_pending (s : State) (j : Option Job) : (s.setParked j).pending = s.pending := rfl

@[simp] theorem State.setHandingOver_timebase (s : State) (h : Bool) : (s.setHandingOver h).timebase = s.timebase := rfl
@[simp] theorem State.setHandingOver_subMs (s : State) (h : Bool) : (s.setHandingOver h).subMs = s.subMs := rfl
@[simp] theorem State.setHandingOver_joinMode (s : State) (h : Bool) : (s.setHandingOver h).joinMode = s.joinMode := rfl
@[simp] theorem State.setHandingOver_ports (s : State) (h : Bool) : (s.setHandingOver h).ports = s.ports := rfl
@[simp] theorem State.setHandingOver_survey (s : State) (h : Bool) : (s.setHandingOver h).survey = s.survey := rfl
@[simp] theorem State.setHandingOver_spots (s : State) (h : Bool) : (s.setHandingOver h).spots = s.spots := rfl
@[simp] theorem State.setHandingOver_results (s : State) (h : Bool) : (s.setHandingOver h).results = s.results := rfl
@[simp] theorem State.setHandingOver_reactions (s : State) (h : Bool) : (s.setHandingOver h).reactions = s.reactions := rfl
@[simp] theorem State.setHandingOver_summary (s : State) (h : Bool) : (s.setHandingOver h).summary = s.summary := rfl
@[simp] theorem State.setHandingOver_link (s : State) (h : Bool) : (s.setHandingOver h).link = s.link := rfl
@[simp] theorem State.setHandingOver_pending (s : State) (h : Bool) : (s.setHandingOver h).pending = s.pending := rfl

@[simp] theorem State.modLink_timebase (s : State) (f : Link → Link) : (s.modLink f).timebase = s.timebase := rfl
@[simp] theorem State.modLink_subMs (s : State) (f : Link → Link) : (s.modLink f).subMs = s.subMs := rfl
@[simp] theorem State.modLink_joinMode (s : State) (f : Link → Link) : (s.modLink f).joinMode = s.joinMode := rfl
@[simp] theorem State.modLink_ports (s : State) (f : Link → Link) : (s.modLink f).ports = s.ports := rfl
@[simp] theorem State.modLink_engine (s : State) (f : Link → Link) : (s.modLink f).engine = s.engine := rfl
@[simp] theorem State.modLink_survey (s : State) (f : Link → Link) : (s.modLink f).survey = s.survey := rfl
@[simp] theorem State.modLink_spots (s : State) (f : Link → Link) : (s.modLink f).spots = s.spots := rfl
@[simp] theorem State.modLink_results (s : State) (f : Link → Link) : (s.modLink f).results = s.results := rfl
@[simp] theorem State.modLink_reactions (s : State) (f : Link → Link) : (s.modLink f).reactions = s.reactions := rfl
@[simp] theorem State.modLink_summary (s : State) (f : Link → Link) : (s.modLink f).summary = s.summary := rfl
@[simp] theorem State.modLink_pending (s : State) (f : Link → Link) : (s.modLink f).pending = s.pending := rfl

@[simp] theorem State.modSession_timebase (s : State) (f : Session → Session) : (s.modSession f).timebase = s.timebase := rfl
@[simp] theorem State.modSession_subMs (s : State) (f : Session → Session) : (s.modSession f).subMs = s.subMs := rfl
@[simp] theorem State.modSession_joinMode (s : State) (f : Session → Session) : (s.modSession f).joinMode = s.joinMode := rfl
@[simp] theorem State.modSession_ports (s : State) (f : Session → Session) : (s.modSession f).ports = s.ports := rfl
@[simp] theorem State.modSession_engine (s : State) (f : Session → Session) : (s.modSession f).engine = s.engine := rfl
@[simp] theorem State.modSession_survey (s : State) (f : Session → Session) : (s.modSession f).survey = s.survey := rfl
@[simp] theorem State.modSession_spots (s : State) (f : Session → Session) : (s.modSession f).spots = s.spots := rfl
@[simp] theorem State.modSession_results (s : State) (f : Session → Session) : (s.modSession f).results = s.results := rfl
@[simp] theorem State.modSession_reactions (s : State) (f : Session → Session) : (s.modSession f).reactions = s.reactions := rfl
@[simp] theorem State.modSession_summary (s : State) (f : Session → Session) : (s.modSession f).summary = s.summary := rfl
@[simp] theorem State.modSession_pending (s : State) (f : Session → Session) : (s.modSession f).pending = s.pending := rfl

@[simp] theorem State.putOnLine_timebase (s : State) (f : LineFrame) : (s.putOnLine f).timebase = s.timebase := rfl
@[simp] theorem State.putOnLine_subMs (s : State) (f : LineFrame) : (s.putOnLine f).subMs = s.subMs := rfl
@[simp] theorem State.putOnLine_joinMode (s : State) (f : LineFrame) : (s.putOnLine f).joinMode = s.joinMode := rfl
@[simp] theorem State.putOnLine_ports (s : State) (f : LineFrame) : (s.putOnLine f).ports = s.ports := rfl
@[simp] theorem State.putOnLine_engine (s : State) (f : LineFrame) : (s.putOnLine f).engine = s.engine := rfl
@[simp] theorem State.putOnLine_survey (s : State) (f : LineFrame) : (s.putOnLine f).survey = s.survey := rfl
@[simp] theorem State.putOnLine_spots (s : State) (f : LineFrame) : (s.putOnLine f).spots = s.spots := rfl
@[simp] theorem State.putOnLine_results (s : State) (f : LineFrame) : (s.putOnLine f).results = s.results := rfl
@[simp] theorem State.putOnLine_reactions (s : State) (f : LineFrame) : (s.putOnLine f).reactions = s.reactions := rfl
@[simp] theorem State.putOnLine_summary (s : State) (f : LineFrame) : (s.putOnLine f).summary = s.summary := rfl
@[simp] theorem State.putOnLine_pending (s : State) (f : LineFrame) : (s.putOnLine f).pending = s.pending := rfl

@[simp] theorem State.putReport_timebase (s : State) (f : LineFrame) : (s.putReport f).timebase = s.timebase := rfl
@[simp] theorem State.putReport_subMs (s : State) (f : LineFrame) : (s.putReport f).subMs = s.subMs := rfl
@[simp] theorem State.putReport_joinMode (s : State) (f : LineFrame) : (s.putReport f).joinMode = s.joinMode := rfl
@[simp] theorem State.putReport_ports (s : State) (f : LineFrame) : (s.putReport f).ports = s.ports := rfl
@[simp] theorem State.putReport_engine (s : State) (f : LineFrame) : (s.putReport f).engine = s.engine := rfl
@[simp] theorem State.putReport_survey (s : State) (f : LineFrame) : (s.putReport f).survey = s.survey := rfl
@[simp] theorem State.putReport_spots (s : State) (f : LineFrame) : (s.putReport f).spots = s.spots := rfl
@[simp] theorem State.putReport_results (s : State) (f : LineFrame) : (s.putReport f).results = s.results := rfl
@[simp] theorem State.putReport_reactions (s : State) (f : LineFrame) : (s.putReport f).reactions = s.reactions := rfl
@[simp] theorem State.putReport_summary (s : State) (f : LineFrame) : (s.putReport f).summary = s.summary := rfl
@[simp] theorem State.putReport_pending (s : State) (f : LineFrame) : (s.putReport f).pending = s.pending := rfl

@[simp] theorem State.takeNumber_timebase (s : State) : (s.takeNumber).timebase = s.timebase := rfl
@[simp] theorem State.takeNumber_subMs (s : State) : (s.takeNumber).subMs = s.subMs := rfl
@[simp] theorem State.takeNumber_joinMode (s : State) : (s.takeNumber).joinMode = s.joinMode := rfl
@[simp] theorem State.takeNumber_ports (s : State) : (s.takeNumber).ports = s.ports := rfl
@[simp] theorem State.takeNumber_engine (s : State) : (s.takeNumber).engine = s.engine := rfl
@[simp] theorem State.takeNumber_survey (s : State) : (s.takeNumber).survey = s.survey := rfl
@[simp] theorem State.takeNumber_spots (s : State) : (s.takeNumber).spots = s.spots := rfl
@[simp] theorem State.takeNumber_results (s : State) : (s.takeNumber).results = s.results := rfl
@[simp] theorem State.takeNumber_reactions (s : State) : (s.takeNumber).reactions = s.reactions := rfl
@[simp] theorem State.takeNumber_summary (s : State) : (s.takeNumber).summary = s.summary := rfl
@[simp] theorem State.takeNumber_pending (s : State) : (s.takeNumber).pending = s.pending := rfl

@[simp] theorem State.frameArrives_timebase (s : State) : (s.frameArrives).timebase = s.timebase := rfl
@[simp] theorem State.frameArrives_subMs (s : State) : (s.frameArrives).subMs = s.subMs := rfl
@[simp] theorem State.frameArrives_joinMode (s : State) : (s.frameArrives).joinMode = s.joinMode := rfl
@[simp] theorem State.frameArrives_ports (s : State) : (s.frameArrives).ports = s.ports := rfl
@[simp] theorem State.frameArrives_engine (s : State) : (s.frameArrives).engine = s.engine := rfl
@[simp] theorem State.frameArrives_survey (s : State) : (s.frameArrives).survey = s.survey := rfl
@[simp] theorem State.frameArrives_spots (s : State) : (s.frameArrives).spots = s.spots := rfl
@[simp] theorem State.frameArrives_results (s : State) : (s.frameArrives).results = s.results := rfl
@[simp] theorem State.frameArrives_reactions (s : State) : (s.frameArrives).reactions = s.reactions := rfl
@[simp] theorem State.frameArrives_summary (s : State) : (s.frameArrives).summary = s.summary := rfl
@[simp] theorem State.frameArrives_pending (s : State) : (s.frameArrives).pending = s.pending := rfl

@[simp] theorem State.reply_timebase (s : State) (kind tag : Byte) (a : Answer) : (s.reply kind tag a).timebase = s.timebase := rfl
@[simp] theorem State.reply_subMs (s : State) (kind tag : Byte) (a : Answer) : (s.reply kind tag a).subMs = s.subMs := rfl
@[simp] theorem State.reply_joinMode (s : State) (kind tag : Byte) (a : Answer) : (s.reply kind tag a).joinMode = s.joinMode := rfl
@[simp] theorem State.reply_ports (s : State) (kind tag : Byte) (a : Answer) : (s.reply kind tag a).ports = s.ports := rfl
@[simp] theorem State.reply_engine (s : State) (kind tag : Byte) (a : Answer) : (s.reply kind tag a).engine = s.engine := rfl
@[simp] theorem State.reply_survey (s : State) (kind tag : Byte) (a : Answer) : (s.reply kind tag a).survey = s.survey := rfl
@[simp] theorem State.reply_spots (s : State) (kind tag : Byte) (a : Answer) : (s.reply kind tag a).spots = s.spots := rfl
@[simp] theorem State.reply_results (s : State) (kind tag : Byte) (a : Answer) : (s.reply kind tag a).results = s.results := rfl
@[simp] theorem State.reply_reactions (s : State) (kind tag : Byte) (a : Answer) : (s.reply kind tag a).reactions = s.reactions := rfl
@[simp] theorem State.reply_summary (s : State) (kind tag : Byte) (a : Answer) : (s.reply kind tag a).summary = s.summary := rfl
@[simp] theorem State.reply_pending (s : State) (kind tag : Byte) (a : Answer) : (s.reply kind tag a).pending = s.pending := rfl

@[simp] theorem State.holdSurvey_timebase (s : State) : (s.holdSurvey).timebase = s.timebase := rfl
@[simp] theorem State.holdSurvey_subMs (s : State) : (s.holdSurvey).subMs = s.subMs := rfl
@[simp] theorem State.holdSurvey_joinMode (s : State) : (s.holdSurvey).joinMode = s.joinMode := rfl
@[simp] theorem State.holdSurvey_ports (s : State) : (s.holdSurvey).ports = s.ports := rfl
@[simp] theorem State.holdSurvey_engine (s : State) : (s.holdSurvey).engine = s.engine := rfl
@[simp] theorem State.holdSurvey_spots (s : State) : (s.holdSurvey).spots = s.spots := rfl
@[simp] theorem State.holdSurvey_results (s : State) : (s.holdSurvey).results = s.results := rfl
@[simp] theorem State.holdSurvey_reactions (s : State) : (s.holdSurvey).reactions = s.reactions := rfl
@[simp] theorem State.holdSurvey_summary (s : State) : (s.holdSurvey).summary = s.summary := rfl
@[simp] theorem State.holdSurvey_link (s : State) : (s.holdSurvey).link = s.link := rfl
@[simp] theorem State.holdSurvey_pending (s : State) : (s.holdSurvey).pending = s.pending := rfl

@[simp] theorem State.zeroCounters_timebase (s : State) (p : PortId) : (s.zeroCounters p).timebase = s.timebase := rfl
@[simp] theorem State.zeroCounters_subMs (s : State) (p : PortId) : (s.zeroCounters p).subMs = s.subMs := rfl
@[simp] theorem State.zeroCounters_joinMode (s : State) (p : PortId) : (s.zeroCounters p).joinMode = s.joinMode := rfl
@[simp] theorem State.zeroCounters_engine (s : State) (p : PortId) : (s.zeroCounters p).engine = s.engine := rfl
@[simp] theorem State.zeroCounters_survey (s : State) (p : PortId) : (s.zeroCounters p).survey = s.survey := rfl
@[simp] theorem State.zeroCounters_spots (s : State) (p : PortId) : (s.zeroCounters p).spots = s.spots := rfl
@[simp] theorem State.zeroCounters_results (s : State) (p : PortId) : (s.zeroCounters p).results = s.results := rfl
@[simp] theorem State.zeroCounters_reactions (s : State) (p : PortId) : (s.zeroCounters p).reactions = s.reactions := rfl
@[simp] theorem State.zeroCounters_summary (s : State) (p : PortId) : (s.zeroCounters p).summary = s.summary := rfl
@[simp] theorem State.zeroCounters_link (s : State) (p : PortId) : (s.zeroCounters p).link = s.link := rfl
@[simp] theorem State.zeroCounters_pending (s : State) (p : PortId) : (s.zeroCounters p).pending = s.pending := rfl

@[simp] theorem State.closeSwitch_timebase (s : State) (p : PortId) : (s.closeSwitch p).timebase = s.timebase := rfl
@[simp] theorem State.closeSwitch_subMs (s : State) (p : PortId) : (s.closeSwitch p).subMs = s.subMs := rfl
@[simp] theorem State.closeSwitch_joinMode (s : State) (p : PortId) : (s.closeSwitch p).joinMode = s.joinMode := rfl
@[simp] theorem State.closeSwitch_engine (s : State) (p : PortId) : (s.closeSwitch p).engine = s.engine := rfl
@[simp] theorem State.closeSwitch_survey (s : State) (p : PortId) : (s.closeSwitch p).survey = s.survey := rfl
@[simp] theorem State.closeSwitch_spots (s : State) (p : PortId) : (s.closeSwitch p).spots = s.spots := rfl
@[simp] theorem State.closeSwitch_results (s : State) (p : PortId) : (s.closeSwitch p).results = s.results := rfl
@[simp] theorem State.closeSwitch_reactions (s : State) (p : PortId) : (s.closeSwitch p).reactions = s.reactions := rfl
@[simp] theorem State.closeSwitch_summary (s : State) (p : PortId) : (s.closeSwitch p).summary = s.summary := rfl
@[simp] theorem State.closeSwitch_link (s : State) (p : PortId) : (s.closeSwitch p).link = s.link := rfl
@[simp] theorem State.closeSwitch_pending (s : State) (p : PortId) : (s.closeSwitch p).pending = s.pending := rfl

@[simp] theorem State.holdExpires_timebase (s : State) (p : PortId) : (s.holdExpires p).timebase = s.timebase := rfl
@[simp] theorem State.holdExpires_subMs (s : State) (p : PortId) : (s.holdExpires p).subMs = s.subMs := rfl
@[simp] theorem State.holdExpires_joinMode (s : State) (p : PortId) : (s.holdExpires p).joinMode = s.joinMode := rfl
@[simp] theorem State.holdExpires_engine (s : State) (p : PortId) : (s.holdExpires p).engine = s.engine := rfl
@[simp] theorem State.holdExpires_survey (s : State) (p : PortId) : (s.holdExpires p).survey = s.survey := rfl
@[simp] theorem State.holdExpires_spots (s : State) (p : PortId) : (s.holdExpires p).spots = s.spots := rfl
@[simp] theorem State.holdExpires_results (s : State) (p : PortId) : (s.holdExpires p).results = s.results := rfl
@[simp] theorem State.holdExpires_reactions (s : State) (p : PortId) : (s.holdExpires p).reactions = s.reactions := rfl
@[simp] theorem State.holdExpires_summary (s : State) (p : PortId) : (s.holdExpires p).summary = s.summary := rfl
@[simp] theorem State.holdExpires_link (s : State) (p : PortId) : (s.holdExpires p).link = s.link := rfl
@[simp] theorem State.holdExpires_pending (s : State) (p : PortId) : (s.holdExpires p).pending = s.pending := rfl


/-! ## Fields an update writes -/

@[simp] theorem State.setActive_active (s : State) (j : Option Job) : (s.setActive j).engine.active = j := rfl
@[simp] theorem State.setActive_parked (s : State) (j : Option Job) :
    (s.setActive j).engine.parked = s.engine.parked := rfl
@[simp] theorem State.setActive_handingOver (s : State) (j : Option Job) :
    (s.setActive j).engine.handingOver = s.engine.handingOver := rfl
@[simp] theorem State.setActive_mux (s : State) (j : Option Job) : (s.setActive j).engine.mux = s.engine.mux := rfl
@[simp] theorem State.setParked_active (s : State) (j : Option Job) :
    (s.setParked j).engine.active = s.engine.active := rfl
@[simp] theorem State.setParked_parked (s : State) (j : Option Job) : (s.setParked j).engine.parked = j := rfl
@[simp] theorem State.setParked_handingOver (s : State) (j : Option Job) :
    (s.setParked j).engine.handingOver = s.engine.handingOver := rfl
@[simp] theorem State.setParked_mux (s : State) (j : Option Job) : (s.setParked j).engine.mux = s.engine.mux := rfl
@[simp] theorem State.setHandingOver_active (s : State) (h : Bool) :
    (s.setHandingOver h).engine.active = s.engine.active := rfl
@[simp] theorem State.setHandingOver_parked (s : State) (h : Bool) :
    (s.setHandingOver h).engine.parked = s.engine.parked := rfl
@[simp] theorem State.setHandingOver_handingOver (s : State) (h : Bool) :
    (s.setHandingOver h).engine.handingOver = h := rfl
@[simp] theorem State.setHandingOver_mux (s : State) (h : Bool) :
    (s.setHandingOver h).engine.mux = s.engine.mux := rfl
@[simp] theorem State.modLink_link (s : State) (f : Link → Link) : (s.modLink f).link = f s.link := rfl
@[simp] theorem State.modSession_session (s : State) (f : Session → Session) :
    (s.modSession f).link.session = f s.link.session := rfl
@[simp] theorem State.modSession_replies (s : State) (f : Session → Session) :
    (s.modSession f).link.replies = s.link.replies := rfl
@[simp] theorem State.modSession_cache (s : State) (f : Session → Session) :
    (s.modSession f).link.cache = s.link.cache := rfl
@[simp] theorem State.modSession_hold (s : State) (f : Session → Session) :
    (s.modSession f).link.hold = s.link.hold := rfl
@[simp] theorem State.modSession_resetPending (s : State) (f : Session → Session) :
    (s.modSession f).link.resetPending = s.link.resetPending := rfl
@[simp] theorem State.modSession_line (s : State) (f : Session → Session) :
    (s.modSession f).link.line = s.link.line := rfl
@[simp] theorem State.modSession_discarded (s : State) (f : Session → Session) :
    (s.modSession f).link.discarded = s.link.discarded := rfl
@[simp] theorem State.modSession_rx (s : State) (f : Session → Session) : (s.modSession f).link.rx = s.link.rx := rfl

/-! ## Access to ports -/

/-- The changed port reads as changed. -/
@[simp] theorem State.port_modPort_same (s : State) (p : PortId) (f : Port → Port) :
    (s.modPort p f).port p = f (s.port p) := by
  simp [State.port, State.modPort]

/-- The other ports read as before. -/
theorem State.port_modPort_of_ne (s : State) {p q : PortId} (f : Port → Port) (h : q ≠ p) :
    (s.modPort p f).port q = s.port q := by
  have : p.val ≠ q.val := fun e => h (Fin.ext e.symm)
  simp [State.port, State.modPort, Vector.getElem_set_ne, this]

/-- Any port after a change of one. -/
theorem State.port_modPort (s : State) (p q : PortId) (f : Port → Port) :
    (s.modPort p f).port q = if q = p then f (s.port p) else s.port q := by
  by_cases h : q = p
  · subst h; simp
  · simp [h, s.port_modPort_of_ne f h]

/-- Two states with the same ports read alike. -/
theorem State.port_congr {s t : State} (h : t.ports = s.ports) (p : PortId) : t.port p = s.port p := by
  simp [State.port, h]

@[simp] theorem State.port_setActive (s : State) (j : Option Job) (p : PortId) : (s.setActive j).port p = s.port p := rfl
@[simp] theorem State.port_setParked (s : State) (j : Option Job) (p : PortId) : (s.setParked j).port p = s.port p := rfl
@[simp] theorem State.port_setHandingOver (s : State) (h : Bool) (p : PortId) :
    (s.setHandingOver h).port p = s.port p := rfl
@[simp] theorem State.port_modLink (s : State) (f : Link → Link) (p : PortId) : (s.modLink f).port p = s.port p := rfl
@[simp] theorem State.port_modSession (s : State) (f : Session → Session) (p : PortId) :
    (s.modSession f).port p = s.port p := rfl

/-! ## Tables -/

/-- An element of a mapped table. -/
@[simp] theorem getElem_vmap {α β : Type} {n : Nat} (f : α → β) (v : Vector α n) (i : Nat) (h : i < n) :
    (vmap f v)[i] = f v[i] := by
  simp [vmap]

/-- A mapped table read at a `Fin`. -/
theorem get_vmap {α β : Type} {n : Nat} (f : α → β) (v : Vector α n) (i : Fin n) : (vmap f v)[i] = f v[i] := by
  simp

/-- Every index is listed. -/
theorem mem_indexes {n : Nat} (i : Fin n) : i ∈ indexes n := by
  induction n with
  | zero => exact i.elim0
  | succ n ih =>
    refine Fin.cases ?_ (fun j => ?_) i
    · simp [indexes]
    · simp only [indexes, List.mem_cons, List.mem_map]
      exact Or.inr ⟨j, ih j, rfl⟩

/-- A port after time has passed. -/
@[simp] theorem State.port_elapse (s : State) (d : Nat) (p : PortId) :
    (s.elapse d).port p = (s.port p).elapse d := by
  simp [State.port, State.elapse]

/-- A port after the settle timers that have run out have filled their slots. -/
@[simp] theorem State.port_fillSlots (s : State) (p : PortId) :
    s.fillSlots.port p = { s.port p with switch := (s.port p).switch.settled } := by
  simp [State.port, State.fillSlots]

end Sys2Proof.Machine
end

