-- ==== Sys2Proof/Laws/Choice.lean ====
section
/-! SUPPORT. What the engine's choice does (R42, R44, R54, R55, R60): one lemma for each source, and for the loop that
makes the choices of one step. -/
namespace Sys2Proof.Machine

theorem State.progressPass_of_noPassEnd (s : State) (h : s.NoPassEnd) : s.progressPass = s := by
  unfold State.progressPass; rw [if_neg]; rw [h]; simp

theorem State.chooseLoop_of_active (n : Nat) (s : State) (h : s.engine.active.isSome = true) : s.chooseLoop n = s := by
  cases n <;> simp [State.chooseLoop, h]

/-- A choice whose job keeps the converter is the last of its step (R54, R55). -/
theorem State.chooseLoop_of_choice (n : Nat) (s : State) (c : Choice) (h1 : s.engine.active = none) (h2 : s.NoPassEnd)
    (h3 : s.nextChoice = some c) (h4 : (s.takeChoice c).engine.active.isSome = true) :
    s.chooseLoop (n + 1) = s.takeChoice c := by
  unfold State.chooseLoop
  simp only [h1, Option.isSome_none, Bool.false_eq_true, if_false, State.progressPass_of_noPassEnd s h2, h3]
  exact State.chooseLoop_of_active _ _ h4

theorem State.wakeEngine_of_choice (s : State) (c : Choice) (h0 : s.engine.handingOver = false)
    (h1 : s.engine.active = none) (h2 : s.NoPassEnd) (h3 : s.nextChoice = some c)
    (h4 : (s.takeChoice c).engine.active.isSome = true) : s.wakeEngine = s.takeChoice c := by
  unfold State.wakeEngine
  simp only [h0, Bool.false_eq_true, if_false, State.progressPass_of_noPassEnd s h2, h1]
  exact State.chooseLoop_of_choice 255 s c h1 h2 h3 h4

/-- With nothing ready the engine does nothing (R54). -/
theorem State.chooseLoop_of_idle (n : Nat) (s : State) (h2 : s.NoPassEnd) (h3 : s.nextChoice = none) :
    s.chooseLoop n = s := by
  cases n
  · rfl
  · unfold State.chooseLoop
    simp only [State.progressPass_of_noPassEnd s h2, h3]
    split <;> rfl

theorem State.wakeEngine_of_idle (s : State) (h0 : s.engine.handingOver = false) (h1 : s.engine.active = none)
    (h2 : s.NoPassEnd) (h3 : s.nextChoice = none) : s.wakeEngine = s := by
  unfold State.wakeEngine
  simp only [h0, Bool.false_eq_true, if_false, State.progressPass_of_noPassEnd s h2, h1]
  exact State.chooseLoop_of_idle _ s h2 h3

/-- The first index with `f` is the lowest. -/
theorem find?_indexes {n : Nat} (f : Fin n → Bool) (i : Fin n) (h : f i = true)
    (hl : ∀ j : Fin n, j.val < i.val → f j = false) : (indexes n).find? f = some i := by
  induction n with
  | zero => exact i.elim0
  | succ n ih =>
    unfold indexes
    rw [List.find?_cons]
    by_cases h0 : i = 0
    · subst h0; rw [h]
    · rw [hl 0 (by have := Fin.pos_iff_ne_zero.mpr h0; exact this)]
      simp only
      obtain ⟨k, rfl⟩ := Fin.exists_succ_eq.mpr h0
      rw [List.find?_map]
      rw [ih (f ∘ Fin.succ) k h (fun j hj => hl j.succ (by simpa using hj))]
      rfl

theorem State.waitingProbe_eq_some (s : State) (p : PortId) (h : (s.port p).switch.slot = .waiting)
    (hl : ∀ q : PortId, q.val < p.val → (s.port q).switch.slot ≠ .waiting) : s.waitingProbe = some p := by
  unfold State.waitingProbe
  exact find?_indexes _ p (by simp [h]) (fun j hj => by simp [hl j hj])

theorem State.waitingProbe_eq_none (s : State) (hl : ∀ q : PortId, (s.port q).switch.slot ≠ .waiting) :
    s.waitingProbe = none := by
  unfold State.waitingProbe
  rw [List.find?_eq_none]; intro q _; simp [hl q]

/-- A job that settles, with the multiplexer at its input (R44, R45, R60). -/
theorem State.enterSettling_eq (s : State) (j : Job)
    (hg : j.quantity ≠ .sigamp ∨ (s.port j.port).tap.trafficGate = true ∨ j.gateWait < j.gateTimeout * ticksPerMs) :
    s.enterSettling j =
      { s with engine := Engine.working (Job.settling ((s.port j.port).gateOpen j.quantity) j) s.engine } := by
  unfold State.enterSettling
  rcases j with ⟨o, p, q, e, sh, gt, rep, rs, sum, sd, gw, ph, sl, sa⟩
  cases q
  case sigamp =>
    simp only [settleTicks, if_true, State.settled, Quantity.gated]
    show (if (s.port p).tap.trafficGate = true then _ else _) = _
    cases hh : (s.port p).tap.trafficGate
    · have : ¬ gt * ticksPerMs ≤ gw := by
        rcases hg with hg | hg | hg
        · exact absurd rfl hg
        · simp at hg; simp [hh] at hg
        · simp only at hg; omega
      simp [State.enterGated, this, State.setActive, Engine.working, Job.settling, settleTimeOf, Port.gateOpen, hh]
    · simp [State.setActive, Engine.working, Job.settling, settleTimeOf, Port.gateOpen, hh]
  all_goals simp [settleTicks, ticksPerUs, ticksPerMs, Engine.working, Job.settling, settleTimeOf]

theorem State.startJob_of_closed (s : State) (j : Job) (h : s.closed j.port = true) :
    s.startJob j = s.enterSettling j := by
  unfold State.startJob; rw [if_pos h]

theorem State.nextChoice_of_probe (s : State) (p : PortId) (h : s.waitingProbe = some p) :
    s.nextChoice = some (.probe p) := by
  unfold State.nextChoice; rw [h]

theorem State.hasFree_iff (s : State) :
    s.results.hasFree = true ↔ s.results.queue.length + s.results.reservations < 16 := decide_eq_true_iff

/-- The choice of a probe on a closed switch (R42, R44, R112). -/
theorem State.takeChoice_probe (s : State) (p : PortId) (hc : s.closed p = true) :
    s.takeChoice (.probe p) =
           { s.setPort p { s.port p with switch := { (s.port p).switch with slot := .inEngine } } with
             engine := s.engine.working
               { origin := .probe p, port := p, quantity := .iseg, e := 4, shift := 4, gateTimeout := 1
                 report := .none, reserved := false, sum := 0, samplesDone := 0, gateWait := 0, phase := .settling
                 settleLeft := 100, sample := .idle } } := by
  unfold State.takeChoice
  simp only
  rw [State.startJob_of_closed, State.enterSettling_eq]
  · rfl
  · left; simp [probeJob, freshJob]
  · show ((s.setSlot p .inEngine).port p).switch.state.closed = true
    unfold State.setSlot; rw [State.port_modPort]; simp; exact hc

/-- The choice of the spot head on a closed switch (R42, R44). -/
theorem State.takeChoice_spot (s : State) (r : SpotRequest) (rest : List SpotRequest) (hc : s.closed r.port = true)
    (hg : 1 ≤ r.gateTimeout) :
    s.takeChoice (.spot r rest) =
             { s with
               spots := rest
               results := { s.results with reservations := s.results.reservations + 1 }
               engine := s.engine.working
                 (Job.settling ((s.port r.port).gateOpen r.quantity)
                   { origin := .spot r.tag, port := r.port, quantity := r.quantity, e := r.e, shift := r.shift
                     gateTimeout := r.gateTimeout, report := .reported, reserved := true, sum := 0, samplesDone := 0
                     gateWait := 0, phase := .settling, settleLeft := 0, sample := .idle }) } := by
  unfold State.takeChoice
  simp only
  rw [State.startJob_of_closed, State.enterSettling_eq]
  · rfl
  · right; right; simp [spotJob, freshJob, ticksPerMs]; omega
  · exact hc

/-- The choice of the survey entry on offer on a closed switch (R42, R44, R74). -/
theorem State.takeChoice_survey (s : State) (i : SlotId) (d : SurveyEntry) (hc : s.closed d.port = true)
    (hg : 1 ≤ d.gateTimeout) :
    let reserved := d.reported && decide (s.survey.pacing = .stall)
    s.takeChoice (.survey i d) =
               { s with
                 survey := { s.survey with cursor := i.val + 1 }
                 results := { s.results with
                   reservations := if reserved then s.results.reservations + 1 else s.results.reservations }
                 engine := s.engine.working
                   (Job.settling ((s.port d.port).gateOpen d.quantity)
                     { origin := .survey i s.survey.passNumber, port := d.port, quantity := d.quantity, e := d.e
                       shift := d.shift, gateTimeout := d.gateTimeout
                       report := if d.reported then .reported else .silent, reserved := reserved, sum := 0
                       samplesDone := 0, gateWait := 0, phase := .settling, settleLeft := 0
                       sample := .idle }) } := by
  intro reserved
  unfold State.takeChoice
  simp only
  rw [State.startJob_of_closed, State.enterSettling_eq]
  · have : (surveyJob s.survey i d).reserved = reserved := rfl
    rw [this]
    have e : surveyJob s.survey i d = { surveyJob s.survey i d with reserved := reserved } := rfl
    rw [e]
    cases reserved <;> rfl
  · right; right
    show 0 < d.gateTimeout * ticksPerMs
    simp [ticksPerMs]; omega
  · have : ∀ b (t : State), (t.reserve b).closed d.port = t.closed d.port := by
      intro b t; cases b <;> rfl
    show ((State.reserve _ _).closed d.port) = true
    rw [this]; exact hc

theorem State.startableSpot_eq_none (s : State)
    (h : s.spots = [] ∨ 16 ≤ s.results.queue.length + s.results.reservations) : s.startableSpot = none := by
  unfold State.startableSpot
  rcases h with h | h
  · rw [h]
  · have : s.results.hasFree = false := by
      cases hh : s.results.hasFree
      · rfl
      · have := (State.hasFree_iff s).1 hh; omega
    cases s.spots <;> simp [this]

/-- No entry is left in the pass (R73, R75). -/
theorem Survey.nextEntry_eq_none_iff (v : Survey) :
    v.nextEntry = none ↔
      ∀ (k : SlotId) (d : SurveyEntry), v.cursor ≤ k.val → v.slots[k] = some d → d.enabled = false := by
  unfold Survey.nextEntry
  rw [List.findSome?_eq_none_iff]
  constructor
  · intro h k d hc hs
    have := h k (mem_indexes k)
    rw [if_pos hc, hs] at this
    cases he : d.enabled
    · rfl
    · simp [he] at this
  · intro h k _
    split
    · next hc =>
      cases hs : v.slots[k] with
      | none => rfl
      | some d => simp [h k d hc hs]
    · rfl

/-- The first index that gives something gives what the search finds. -/
theorem findSome?_indexes {α : Type} {n : Nat} (f : Fin n → Option α) (i : Fin n) (x : α) (h : f i = some x)
    (hl : ∀ j : Fin n, j.val < i.val → f j = none) : (indexes n).findSome? f = some x := by
  induction n with
  | zero => exact i.elim0
  | succ n ih =>
    unfold indexes
    rw [List.findSome?_cons]
    by_cases h0 : i = 0
    · subst h0; rw [h]
    · rw [hl 0 (Fin.pos_iff_ne_zero.mpr h0)]
      obtain ⟨k, rfl⟩ := Fin.exists_succ_eq.mpr h0
      simp only [List.findSome?_map]
      exact ih (f ∘ Fin.succ) k h fun j hj => hl j.succ (by simpa using hj)

/-- The next entry of the pass is the first enabled one at or after the cursor (R73). -/
theorem Survey.nextEntry_eq_some_iff (v : Survey) (i : SlotId) (d : SurveyEntry) :
    v.nextEntry = some (i, d) ↔ v.NextIs i d := by
  have found : ∀ (i : SlotId) (d : SurveyEntry), v.NextIs i d → v.nextEntry = some (i, d) := by
    rintro i d ⟨h1, h2, h3, h4⟩
    unfold Survey.nextEntry
    apply findSome?_indexes _ i
    · simp [h3, h1, h2]
    · intro k hk
      split
      · next hc =>
        cases hs : v.slots[k] with
        | none => rfl
        | some f => simp [h4 k hc hk f hs]
      · rfl
  refine ⟨fun h => ?_, found i d⟩
  have some_enabled : ∃ n, ∃ (k : SlotId) (f : SurveyEntry),
      k.val = n ∧ v.cursor ≤ k.val ∧ v.slots[k] = some f ∧ f.enabled = true := by
    by_contra hc
    have none_left : v.nextEntry = none := (Survey.nextEntry_eq_none_iff v).2 fun k f h1 h2 => by
      cases he : f.enabled
      · rfl
      · exact absurd ⟨k.val, k, f, rfl, h1, h2, he⟩ hc
    rw [none_left] at h
    cases h
  classical
  obtain ⟨k, f, h1, h2, h3, h4⟩ := Nat.find_spec some_enabled
  have first : v.NextIs k f := ⟨h3, h4, h2, fun j hj hk g hg => by
    cases he : g.enabled
    · rfl
    · exact absurd ⟨j, g, rfl, hj, hg, he⟩ (Nat.find_min some_enabled (by rw [← h1]; exact hk))⟩
  rw [found k f first] at h
  cases h
  exact first

/-- An entry ahead of the cursor keeps the pass from ending (R75). -/
theorem State.noPassEnd_of_next (s : State) (i : SlotId) (d : SurveyEntry) (h : s.survey.NextIs i d) : s.NoPassEnd := by
  simp [State.NoPassEnd, State.passEndDue, (Survey.nextEntry_eq_some_iff _ i d).2 h]

/-- The entry on offer (R73, R79). -/
theorem State.offer_eq_some (s : State) (i : SlotId) (d : SurveyEntry) (hr : s.survey.state = .running)
    (hp : s.survey.inPass = true) (ha : s.engine.active = none) (hk : s.engine.parked = none)
    (hn : s.survey.NextIs i d)
    (hf : d.reported = true → s.survey.pacing = .stall → s.results.queue.length + s.results.reservations < 16) :
    s.offer = some (i, d) := by
  have hs : s.engine.hasSurvey = false := by simp [Engine.hasSurvey, ha, hk]
  unfold State.offer State.reachedEntry
  simp only [hr, hp, hs, and_self, if_true, (Survey.nextEntry_eq_some_iff _ i d).2 hn]
  rw [if_neg]
  intro hx
  simp only [Survey.needsFree, Bool.and_eq_true, Bool.not_eq_true', decide_eq_true_eq] at hx
  have := (State.hasFree_iff s).2 (hf hx.1.1 hx.1.2)
  rw [this] at hx
  simp at hx

/-- On a free converter the engine's look is the loop of choices, once a pass that is over has ended. -/
theorem State.wakeEngine_of_free (s : State) (h : s.engine.handingOver = false) (ha : s.engine.active = none) :
    s.wakeEngine = s.progressPass.chooseLoop 256 := by
  unfold State.wakeEngine
  simp only [h, Bool.false_eq_true, if_false]
  have : s.progressPass.engine = s.engine := by unfold State.progressPass; split <;> rfl
  rw [this, ha]
  rfl

/-- One choice of the loop. -/
theorem State.chooseLoop_succ (n : Nat) (s : State) (c : Choice) (h1 : s.engine.active = none) (h2 : s.NoPassEnd)
    (h3 : s.nextChoice = some c) : s.chooseLoop (n + 1) = (s.takeChoice c).chooseLoop n := by
  conv_lhs => unfold State.chooseLoop
  simp only [h1, Option.isSome_none, Bool.false_eq_true, if_false, State.progressPass_of_noPassEnd s h2, h3]

end Sys2Proof.Machine
end

