-- ==== Sys2Proof/Laws/Engine.lean ====
section
/-! SUPPORT. What the engine's operations can do (chapters 3 and 4): they leave the time, the reaction table, the host
link and the queue of commands, and of a port they touch the probe slot alone. -/
namespace Sys2Proof.Machine

/-! ## The summary unit's latch -/

/-- An occurrence latched touches the summary alone. -/
theorem State.latch_eq (s : State) (o : Occurrence) : s.latch o = { s with summary := (s.latch o).summary } := by
  unfold State.latch; split <;> rfl

theorem State.latchAll_eq (s : State) (os : List Occurrence) :
    s.latchAll os = { s with summary := (s.latchAll os).summary } := by
  unfold State.latchAll
  induction os generalizing s with
  | nil => rfl
  | cons o os ih =>
    have h := ih (s.latch o)
    rw [List.foldl_cons, h, s.latch_eq o]

/-- Two ports alike but for the probe slot, which may be emptied, and taken where it was occupied. -/
structure Port.SameButSlot (a b : Port) : Prop where
  tap : b.tap = a.tap
  cond : b.cond = a.cond
  params : b.params = a.params
  powerGood : b.powerGood = a.powerGood
  line : b.line = a.line
  state : b.switch.state = a.switch.state
  cause : b.switch.cause = a.switch.cause
  retries : b.switch.retries = a.switch.retries
  hold : b.switch.hold = a.switch.hold
  settle : b.switch.settle = a.switch.settle
  lastProbe : b.switch.lastProbe = a.switch.lastProbe
  slot : a.switch.slot = .empty → b.switch.slot = .empty

theorem Port.SameButSlot.refl (a : Port) : a.SameButSlot a := by constructor <;> first | rfl | exact id

theorem Port.SameButSlot.trans {a b c : Port} (h : a.SameButSlot b) (k : b.SameButSlot c) : a.SameButSlot c := by
  constructor
  · exact k.tap.trans h.tap
  · exact k.cond.trans h.cond
  · exact k.params.trans h.params
  · exact k.powerGood.trans h.powerGood
  · exact k.line.trans h.line
  · exact k.state.trans h.state
  · exact k.cause.trans h.cause
  · exact k.retries.trans h.retries
  · exact k.hold.trans h.hold
  · exact k.settle.trans h.settle
  · exact k.lastProbe.trans h.lastProbe
  · exact fun e => k.slot (h.slot e)

/-- What every operation of the engine and the survey sequencer keeps. -/
structure EngineKeeps (s t : State) : Prop where
  timebase : t.timebase = s.timebase
  subMs : t.subMs = s.subMs
  joinMode : t.joinMode = s.joinMode
  reactions : t.reactions = s.reactions
  link : t.link = s.link
  pending : t.pending = s.pending
  port : ∀ p, (s.port p).SameButSlot (t.port p)

theorem EngineKeeps.refl (s : State) : EngineKeeps s s := by
  constructor <;> first | rfl | exact fun p => Port.SameButSlot.refl _

theorem EngineKeeps.trans {s t u : State} (h : EngineKeeps s t) (k : EngineKeeps t u) : EngineKeeps s u where
  timebase := k.timebase.trans h.timebase
  subMs := k.subMs.trans h.subMs
  joinMode := k.joinMode.trans h.joinMode
  reactions := k.reactions.trans h.reactions
  link := k.link.trans h.link
  pending := k.pending.trans h.pending
  port := fun p => (h.port p).trans (k.port p)

/-- An update of the engine, survey, spots, results and summary alone. -/
theorem EngineKeeps.of_blocks (s : State) (g : Engine) (v : Survey) (q : List SpotRequest) (u : Results) (m : Summary) :
    EngineKeeps s { s with engine := g, survey := v, spots := q, results := u, summary := m } := by
  constructor <;> first | rfl | exact fun p => Port.SameButSlot.refl _

theorem State.latchAll_keeps (s : State) (os : List Occurrence) : EngineKeeps s (s.latchAll os) := by
  rw [s.latchAll_eq os]
  exact EngineKeeps.of_blocks s s.engine s.survey s.spots s.results _

theorem State.setSlot_keeps (s : State) (p : PortId) (slot : ProbeSlot)
    (h : slot = .empty ∨ (s.port p).switch.slot ≠ .empty) : EngineKeeps s (s.setSlot p slot) := by
  refine ⟨rfl, rfl, rfl, rfl, rfl, rfl, fun q => ?_⟩
  unfold State.setSlot
  rw [State.port_modPort]
  split
  · subst q
    constructor <;> first | rfl | exact fun e => h.elim id fun n => absurd e n
  · exact Port.SameButSlot.refl _

theorem State.setActive_keeps (s : State) (j : Option Job) : EngineKeeps s (s.setActive j) :=
  EngineKeeps.of_blocks s _ s.survey s.spots s.results s.summary

theorem State.setParked_keeps (s : State) (j : Option Job) : EngineKeeps s (s.setParked j) :=
  EngineKeeps.of_blocks s _ s.survey s.spots s.results s.summary

theorem State.setHandingOver_keeps (s : State) (h : Bool) : EngineKeeps s (s.setHandingOver h) :=
  EngineKeeps.of_blocks s _ s.survey s.spots s.results s.summary

theorem State.handleResult_keeps (s : State) (c : Completion) : EngineKeeps s (s.handleResult c).1 := by
  unfold State.handleResult
  exact EngineKeeps.of_blocks s s.engine _ s.spots _ s.summary

theorem State.discardProbe_keeps (s : State) (p : PortId) : EngineKeeps s (s.discardProbe p) := by
  unfold State.discardProbe
  split
  · exact s.setSlot_keeps p _ (Or.inl rfl)
  · exact .refl s

theorem State.deliverUntested_keeps (s : State) (j : Job) (status : JobStatus) :
    EngineKeeps s (s.deliverUntested j status) := by
  unfold State.deliverUntested
  split
  · exact s.discardProbe_keeps _
  · exact (s.handleResult_keeps _).trans (State.latchAll_keeps _ _)
  · exact (s.handleResult_keeps _).trans (State.latchAll_keeps _ _)

theorem State.endActive_keeps (s : State) (status : JobStatus) : EngineKeeps s (s.endActive status) := by
  unfold State.endActive
  split
  · exact .refl s
  · exact (s.setActive_keeps _).trans (State.deliverUntested_keeps _ _ _)

theorem State.endParked_keeps (s : State) (status : JobStatus) : EngineKeeps s (s.endParked status) := by
  unfold State.endParked
  split
  · exact .refl s
  · exact (s.setParked_keeps _).trans (State.deliverUntested_keeps _ _ _)

theorem State.enterGated_keeps (s : State) (j : Job) : EngineKeeps s (s.enterGated j) := by
  unfold State.enterGated
  split
  · exact (s.setActive_keeps _).trans (State.endActive_keeps _ _)
  · exact s.setActive_keeps _

theorem State.settled_keeps (s : State) (j : Job) : EngineKeeps s (s.settled j) := by
  unfold State.settled
  split
  · split
    · exact s.setActive_keeps _
    · exact s.enterGated_keeps j
  · exact s.setActive_keeps _

theorem State.enterSettling_keeps (s : State) (j : Job) : EngineKeeps s (s.enterSettling j) := by
  unfold State.enterSettling
  simp only
  split
  · exact (EngineKeeps.of_blocks s _ s.survey s.spots s.results s.summary).trans (State.settled_keeps _ _)
  · exact EngineKeeps.of_blocks s _ s.survey s.spots s.results s.summary

theorem State.startJob_keeps (s : State) (j : Job) : EngineKeeps s (s.startJob j) := by
  unfold State.startJob
  split
  · exact s.enterSettling_keeps j
  · exact s.deliverUntested_keeps j _

theorem State.reserve_keeps (s : State) (held : Bool) : EngineKeeps s (s.reserve held) := by
  unfold State.reserve
  split
  · exact EngineKeeps.of_blocks s s.engine s.survey s.spots _ s.summary
  · exact .refl s

theorem State.release_keeps (s : State) (held : Bool) : EngineKeeps s (s.release held) := by
  unfold State.release
  split
  · exact EngineKeeps.of_blocks s s.engine s.survey s.spots _ s.summary
  · exact .refl s

theorem State.progressPass_keeps (s : State) : EngineKeeps s s.progressPass := by
  unfold State.progressPass
  split
  · exact EngineKeeps.of_blocks s s.engine _ s.spots s.results s.summary
  · exact .refl s

/-- The probe that the engine chooses waits in its slot (R54). -/
theorem State.waitingProbe_slot {s : State} {p : PortId} (h : s.waitingProbe = some p) :
    (s.port p).switch.slot = .waiting := by
  unfold State.waitingProbe at h
  simpa using List.find?_some h

theorem State.nextChoice_probe {s : State} {p : PortId} (h : s.nextChoice = some (.probe p)) :
    s.waitingProbe = some p := by
  unfold State.nextChoice at h
  split at h
  · next q hq => cases h; exact hq
  · split at h
    · cases h
    · split at h
      · cases h
      · split at h <;> cases h

theorem State.takeChoice_keeps (s : State) (c : Choice) (h : s.nextChoice = some c) : EngineKeeps s (s.takeChoice c) := by
  unfold State.takeChoice
  split
  · have hw := State.waitingProbe_slot (State.nextChoice_probe h)
    exact (s.setSlot_keeps _ _ (Or.inr (by rw [hw]; decide))).trans (State.startJob_keeps _ _)
  · exact ((EngineKeeps.of_blocks s s.engine s.survey _ s.results s.summary).trans (State.reserve_keeps _ _)).trans
      (State.startJob_keeps _ _)
  · exact (s.setParked_keeps _).trans (State.enterSettling_keeps _ _)
  · exact ((EngineKeeps.of_blocks s s.engine _ s.spots s.results s.summary).trans (State.reserve_keeps _ _)).trans
      (State.startJob_keeps _ _)

theorem State.chooseLoop_keeps (fuel : Nat) (s : State) : EngineKeeps s (s.chooseLoop fuel) := by
  induction fuel generalizing s with
  | zero => exact .refl s
  | succ fuel ih =>
    unfold State.chooseLoop
    split
    · exact .refl s
    · simp only
      split
      · exact s.progressPass_keeps
      · next c hc => exact (s.progressPass_keeps.trans (State.takeChoice_keeps _ _ hc)).trans (ih _)

theorem State.parkActive_keeps (s : State) (j : Job) : EngineKeeps s (s.parkActive j) :=
  EngineKeeps.of_blocks s _ s.survey s.spots s.results s.summary

/-- The engine's look at its sources. -/
theorem State.wakeEngine_keeps (s : State) : EngineKeeps s s.wakeEngine := by
  unfold State.wakeEngine
  split
  · exact .refl s
  · simp only
    split
    · exact s.progressPass_keeps.trans (State.chooseLoop_keeps _ _)
    · split
      · exact (s.progressPass_keeps.trans (State.parkActive_keeps _ _)).trans (State.chooseLoop_keeps _ _)
      · exact s.progressPass_keeps

theorem State.endActiveOn_keeps (s : State) (p : PortId) : EngineKeeps s (s.endActiveOn p) := by
  unfold State.endActiveOn
  split
  · exact s.endActive_keeps _
  · exact .refl s

theorem State.endParkedOn_keeps (s : State) (p : PortId) : EngineKeeps s (s.endParkedOn p) := by
  unfold State.endParkedOn
  split
  · exact s.endParked_keeps _
  · exact .refl s

theorem State.engineOpening_keeps (s : State) (p : PortId) : EngineKeeps s (s.engineOpening p) :=
  ((s.endActiveOn_keeps p).trans (State.endParkedOn_keeps _ p)).trans (State.wakeEngine_keeps _)

theorem State.holdSurvey_keeps (s : State) : EngineKeeps s s.holdSurvey :=
  EngineKeeps.of_blocks s s.engine _ s.spots s.results s.summary

theorem State.resumeWork_keeps (s : State) : EngineKeeps s s.resumeWork := by
  unfold State.resumeWork
  split
  · exact s.progressPass_keeps
  · exact EngineKeeps.of_blocks s s.engine _ s.spots s.results s.summary

theorem State.resumeSurvey_keeps (s : State) : EngineKeeps s s.resumeSurvey :=
  ((EngineKeeps.of_blocks s s.engine _ s.spots s.results s.summary).trans (State.resumeWork_keeps _)).trans
    (State.wakeEngine_keeps _)

theorem State.discardActiveSurvey_keeps (s : State) : EngineKeeps s s.discardActiveSurvey := by
  unfold State.discardActiveSurvey
  split
  · exact .refl s
  · split
    · exact (s.setActive_keeps _).trans (State.release_keeps _ _)
    · exact .refl s

theorem State.discardParkedSurvey_keeps (s : State) : EngineKeeps s s.discardParkedSurvey := by
  unfold State.discardParkedSurvey
  split
  · exact .refl s
  · split
    · exact (s.setParked_keeps _).trans (State.release_keeps _ _)
    · exact .refl s

theorem State.stopSurvey_keeps (s : State) : EngineKeeps s s.stopSurvey :=
  (((EngineKeeps.of_blocks s s.engine _ s.spots s.results s.summary).trans
    (State.discardActiveSurvey_keeps _)).trans (State.discardParkedSurvey_keeps _)).trans (State.wakeEngine_keeps _)

theorem State.queueSpot_keeps (s : State) (r : SpotRequest) : EngineKeeps s (s.queueSpot r) := by
  unfold State.queueSpot
  exact (EngineKeeps.of_blocks s s.engine s.survey _ s.results s.summary).trans (State.wakeEngine_keeps _)

theorem State.cancelSpots_keeps (s : State) (tag : Byte) : EngineKeeps s (s.cancelSpots tag) := by
  unfold State.cancelSpots
  exact (EngineKeeps.of_blocks s s.engine s.survey _ s.results s.summary).trans (State.wakeEngine_keeps _)

theorem State.symbolStart_keeps (s : State) (p : PortId) : EngineKeeps s (s.symbolStart p) := by
  unfold State.symbolStart
  split
  · exact .refl s
  · split
    · split
      · exact s.setActive_keeps _
      · split
        · exact .refl s
        · exact s.enterGated_keeps _
    · exact .refl s

theorem State.quietGateClosed_keeps (s : State) (p : PortId) : EngineKeeps s (s.quietGateClosed p) := by
  unfold State.quietGateClosed
  split
  · exact .refl s
  · split
    · exact s.setActive_keeps _
    · exact .refl s

theorem State.discardSample_keeps (s : State) (p : PortId) : EngineKeeps s (s.discardSample p) := by
  unfold State.discardSample
  split
  · exact .refl s
  · split
    · exact s.setActive_keeps _
    · exact .refl s

theorem State.symbolCut_keeps (s : State) (p : PortId) : EngineKeeps s (s.symbolCut p) :=
  ((s.discardSample_keeps p).trans (State.symbolStart_keeps _ p)).trans (State.wakeEngine_keeps _)

end Sys2Proof.Machine
end

