-- ==== Sys2Proof/Laws/Link.lean ====
section
/-! SUPPORT. The output arbiter (R167, R168): what it can change, and which record it sends first. -/
namespace Sys2Proof.Machine

/-- The arbiter changes the host link and the send states of records, and nothing else. -/
theorem State.arbitrate_eq (s : State) :
    s.arbitrate = { s with
      results := { s.results with queue := s.arbitrate.results.queue }
      summary := { s.summary with events := s.arbitrate.summary.events }
      link := s.arbitrate.link } := by
  unfold State.arbitrate
  split
  · rfl
  · split
    · rfl
    · split
      · unfold State.retransmitHead
        simp only
        split <;> rfl
      · split
        · unfold State.startReport
          simp only
          split
          · rfl
          · split <;> rfl
        · rfl

theorem State.arbitrate_ports (s : State) : s.arbitrate.ports = s.ports := by rw [s.arbitrate_eq]

theorem State.arbitrate_engine (s : State) : s.arbitrate.engine = s.engine := by rw [s.arbitrate_eq]

theorem State.arbitrate_pending (s : State) : s.arbitrate.pending = s.pending := by rw [s.arbitrate_eq]

theorem sendFirstEvent_of_none (seq : Byte) (l : List EventRec) (h : ∀ k ∈ l, k.send ≠ .waiting) :
    sendFirstEvent seq l = none := by
  induction l with
  | nil => rfl
  | cons a l ih => simp [sendFirstEvent, h a (by simp), ih fun k hk => h k (by simp [hk])]

theorem sendFirstEvent_of_first (seq : Byte) (older newer : List EventRec) (e : EventRec)
    (h : ∀ k ∈ older, k.send ≠ .waiting) (he : e.send = .waiting) :
    sendFirstEvent seq (older ++ e :: newer) = some (e, older ++ { e with send := .sent seq } :: newer) := by
  induction older with
  | nil => simp [sendFirstEvent, he]
  | cons a l ih => simp [sendFirstEvent, h a (by simp), ih fun k hk => h k (by simp [hk])]

theorem sendFirstResult_of_none (seq : Byte) (l : List ResultRec) (h : ∀ k ∈ l, k.send ≠ .waiting) :
    sendFirstResult seq l = none := by
  induction l with
  | nil => rfl
  | cons a l ih => simp [sendFirstResult, h a (by simp), ih fun k hk => h k (by simp [hk])]

theorem sendFirstResult_of_first (seq : Byte) (older newer : List ResultRec) (r : ResultRec)
    (h : ∀ k ∈ older, k.send ≠ .waiting) (hr : r.send = .waiting) :
    sendFirstResult seq (older ++ r :: newer) = some (r, older ++ { r with send := .sent seq } :: newer) := by
  induction older with
  | nil => simp [sendFirstResult, hr]
  | cons a l ih => simp [sendFirstResult, h a (by simp), ih fun k hk => h k (by simp [hk])]

end Sys2Proof.Machine
end

