-- ==== Sys2Proof/Laws/Reaction.lean ====
section
/-! SUPPORT. What openings, closings, reactions and completions can do (chapters 5 to 7): they leave the time, the host
link and the queue of commands, and of a port its parameters, its power-sense signal and its frame counters. -/
namespace Sys2Proof.Machine

/-- What an occurrence taken whole keeps. -/
structure ReactionKeeps (s t : State) : Prop where
  timebase : t.timebase = s.timebase
  subMs : t.subMs = s.subMs
  joinMode : t.joinMode = s.joinMode
  link : t.link = s.link
  pending : t.pending = s.pending
  params : ∀ p, (t.port p).params = (s.port p).params
  powerGood : ∀ p, (t.port p).powerGood = (s.port p).powerGood
  counters : ∀ p, (t.port p).tap.counters = (s.port p).tap.counters

theorem ReactionKeeps.refl (s : State) : ReactionKeeps s s := by
  constructor <;> first | rfl | exact fun _ => rfl

theorem ReactionKeeps.trans {s t u : State} (h : ReactionKeeps s t) (k : ReactionKeeps t u) : ReactionKeeps s u where
  timebase := k.timebase.trans h.timebase
  subMs := k.subMs.trans h.subMs
  joinMode := k.joinMode.trans h.joinMode
  link := k.link.trans h.link
  pending := k.pending.trans h.pending
  params := fun p => (k.params p).trans (h.params p)
  powerGood := fun p => (k.powerGood p).trans (h.powerGood p)
  counters := fun p => (k.counters p).trans (h.counters p)

/-- The engine's operations among them. -/
theorem EngineKeeps.reaction {s t : State} (h : EngineKeeps s t) : ReactionKeeps s t where
  timebase := h.timebase
  subMs := h.subMs
  joinMode := h.joinMode
  link := h.link
  pending := h.pending
  params := fun p => (h.port p).params
  powerGood := fun p => (h.port p).powerGood
  counters := fun p => congrArg Tap.counters (h.port p).tap

/-- A change of one port that keeps its parameters, its power-sense signal and its counters. -/
theorem ReactionKeeps.of_modPort (s : State) (p : PortId) (f : Port → Port)
    (hp : ∀ r, (f r).params = r.params) (hg : ∀ r, (f r).powerGood = r.powerGood)
    (hc : ∀ r, (f r).tap.counters = r.tap.counters) : ReactionKeeps s (s.modPort p f) := by
  refine ⟨rfl, rfl, rfl, rfl, rfl, fun q => ?_, fun q => ?_, fun q => ?_⟩ <;>
    (rw [State.port_modPort]; split)
  · subst q; exact hp _
  · rfl
  · subst q; exact hg _
  · rfl
  · subst q; exact hc _
  · rfl

theorem State.modSwitch_keeps (s : State) (p : PortId) (f : Params → SwitchRec → SwitchRec) :
    ReactionKeeps s (s.modSwitch p f) :=
  .of_modPort s p _ (fun _ => rfl) (fun _ => rfl) fun _ => rfl

theorem State.forceDark_keeps (s : State) (p : PortId) : ReactionKeeps s (s.forceDark p) :=
  .of_modPort s p _ (fun _ => rfl) (fun _ => rfl) fun _ => rfl

theorem State.openSwitch_keeps (s : State) (p : PortId) : ReactionKeeps s (s.openSwitch p) :=
  (s.forceDark_keeps p).trans (State.engineOpening_keeps _ p).reaction

theorem State.closeSwitch_keeps (s : State) (p : PortId) : ReactionKeeps s (s.closeSwitch p) :=
  .of_modPort s p _ (fun _ => rfl) (fun _ => rfl) fun _ => rfl

theorem State.isolatePort_keeps (s : State) (p : PortId) (cause : IsolationCause) :
    ReactionKeeps s (s.isolatePort p cause) := by
  unfold State.isolatePort
  simp only
  split
  · exact (s.modSwitch_keeps p _).trans (State.openSwitch_keeps _ p)
  · exact s.modSwitch_keeps p _

theorem State.joinPort_keeps (s : State) (p : PortId) : ReactionKeeps s (s.joinPort p) := by
  unfold State.joinPort
  split
  · exact .refl s
  · exact (s.modSwitch_keeps p _).trans (State.closeSwitch_keeps _ p)

theorem State.latch_keeps (s : State) (o : Occurrence) : EngineKeeps s (s.latch o) := by
  rw [s.latch_eq o]
  exact EngineKeeps.of_blocks s s.engine s.survey s.spots s.results _

theorem State.performAction_keeps (s : State) (i : EntryId) (c : ReactionConfig) (trigger : Option PortId) :
    ReactionKeeps s (s.performAction i c trigger).1 := by
  unfold State.performAction
  split
  · split
    · exact (s.isolatePort_keeps _ .reaction).trans (State.latch_keeps (s.isolatePort _ .reaction) (.reacted _)).reaction
    · exact .refl s
  · split
    · exact s.joinPort_keeps _
    · exact .refl s
  · split
    · split
      · exact (s.queueSpot_keeps _).reaction
      · exact .refl s
    · exact .refl s
  · split
    · exact (s.latch_keeps (.note _ i)).reaction
    · exact .refl s
  · split
    · exact s.holdSurvey_keeps.reaction
    · exact .refl s
  · split
    · exact s.resumeSurvey_keeps.reaction
    · exact .refl s

theorem State.recordFiring_keeps (s : State) (i : EntryId) (e : ReactionEntry) (outcome : FireOutcome) :
    ReactionKeeps s (s.recordFiring i e outcome) := by
  constructor <;> first | rfl | exact fun _ => rfl

theorem State.reportOutcome_keeps (s : State) (outcome : FireOutcome) : ReactionKeeps s (s.reportOutcome outcome) := by
  unfold State.reportOutcome
  split
  · exact .refl s
  · exact .refl s
  · exact (s.latch_keeps _).reaction
  · exact (s.latch_keeps _).reaction

theorem State.fire_keeps (s : State) (i : EntryId) (e : ReactionEntry) (trigger : Option PortId) :
    ReactionKeeps s (s.fire i e trigger) :=
  ((s.performAction_keeps i e.config trigger).trans (State.recordFiring_keeps _ i e _)).trans
    (State.reportOutcome_keeps _ _)

theorem State.offerTo_keeps (o : Occurrence) (s : State) (i : EntryId) : ReactionKeeps s (State.offerTo o s i) := by
  unfold State.offerTo
  split
  · exact .refl s
  · split
    · exact s.fire_keeps _ _ _
    · exact .refl s

theorem State.offerAll_keeps (o : Occurrence) (is : List EntryId) (s : State) :
    ReactionKeeps s (is.foldl (State.offerTo o) s) := by
  induction is generalizing s with
  | nil => exact .refl s
  | cons i is ih =>
    rw [List.foldl_cons]
    exact (State.offerTo_keeps o s i).trans (ih _)

theorem State.react_keeps (s : State) (o : Occurrence) : ReactionKeeps s (s.react o) := by
  unfold State.react
  exact State.offerAll_keeps o _ s

/-- An occurrence latched and taken by the reaction unit. -/
theorem State.raise_keeps (s : State) (o : Occurrence) : ReactionKeeps s (s.raise o) :=
  (s.latch_keeps o).reaction.trans (State.react_keeps _ o)

theorem State.raiseAll_keeps (s : State) (os : List Occurrence) : ReactionKeeps s (s.raiseAll os) := by
  unfold State.raiseAll
  induction os generalizing s with
  | nil => exact .refl s
  | cons o os ih =>
    rw [List.foldl_cons]
    exact (s.raise_keeps o).trans (ih _)

theorem State.retryStep_keeps (s : State) (p : PortId) : ReactionKeeps s (s.retryStep p) := by
  unfold State.retryStep
  exact (s.modSwitch_keeps p _).trans (State.openSwitch_keeps _ p)

theorem State.tripJoined_keeps (s : State) (p : PortId) : ReactionKeeps s (s.tripJoined p) := by
  unfold State.tripJoined
  exact (s.modSwitch_keeps p _).trans (State.openSwitch_keeps _ p)

theorem State.failProbe_keeps (s : State) (p : PortId) (tripped : Bool) : ReactionKeeps s (s.failProbe p tripped) := by
  unfold State.failProbe
  exact (s.retryStep_keeps p).trans (State.raiseAll_keeps _ _)

theorem State.probeVerdict_keeps (s : State) (p : PortId) (value : Nat) : ReactionKeeps s (s.probeVerdict p value) := by
  unfold State.probeVerdict
  split
  · exact s.modSwitch_keeps p _
  · exact s.failProbe_keeps p _

theorem State.judgeProbe_keeps (s : State) (p : PortId) (value : Nat) : ReactionKeeps s (s.judgeProbe p value) := by
  unfold State.judgeProbe
  split
  · exact (s.modSwitch_keeps p _).trans (State.probeVerdict_keeps _ p value)
  · exact .refl s

theorem State.deliverOk_keeps (s : State) (j : Job) : ReactionKeeps s (s.deliverOk j) := by
  unfold State.deliverOk
  simp only
  split
  · exact s.judgeProbe_keeps _ _
  · exact (s.handleResult_keeps _).reaction.trans (State.raiseAll_keeps _ _)
  · exact (s.handleResult_keeps _).reaction.trans (State.raiseAll_keeps _ _)

theorem State.completeOk_keeps (s : State) (j : Job) : ReactionKeeps s (s.completeOk j) :=
  ((((s.setActive_keeps none).trans (State.setHandingOver_keeps _ true)).reaction.trans
    (State.deliverOk_keeps _ j)).trans (State.setHandingOver_keeps _ false).reaction).trans
    (State.wakeEngine_keeps _).reaction

theorem State.afterSample_keeps (s : State) (j onward : Job) : ReactionKeeps s (s.afterSample j onward) := by
  unfold State.afterSample
  split
  · exact s.completeOk_keeps j
  · exact (s.setActive_keeps _).reaction

theorem State.judgeSample_keeps (s : State) (p : PortId) (c : SymClass) (code : Code) :
    ReactionKeeps s (s.judgeSample p c code) := by
  unfold State.judgeSample
  split
  · exact .refl s
  · split
    · split
      · exact .refl s
      · exact .refl s
      · split
        · exact s.afterSample_keeps _ _
        · exact (s.setActive_keeps _).reaction
    · exact .refl s

theorem State.symbolBoundary_keeps (s : State) (p : PortId) (c : SymClass) (code : Code) :
    ReactionKeeps s (s.symbolBoundary p c code) :=
  ((s.judgeSample_keeps p c code).trans (State.symbolStart_keeps _ p).reaction).trans (State.wakeEngine_keeps _).reaction

theorem State.overcurrent_keeps (s : State) (p : PortId) : ReactionKeeps s (s.overcurrent p) := by
  unfold State.overcurrent
  split
  · exact .refl s
  · exact .refl s
  · exact (s.tripJoined_keeps p).trans (State.raise_keeps _ _)
  · exact s.failProbe_keeps p true

theorem State.conditionChanged_keeps (s : State) (p : PortId) (entered : Option Condition) :
    ReactionKeeps s (s.conditionChanged p entered) :=
  (s.quietGateClosed_keeps p).reaction.trans (State.raiseAll_keeps _ _)

/-! ## A table with no armed entry -/

/-- No reaction entry is armed. -/
def State.Unarmed (s : State) : Prop := ∀ i : EntryId, ∀ e, s.reactions[i] = some e → e.armed = false

theorem State.Unarmed.latch {s : State} (h : s.Unarmed) (o : Occurrence) : (s.latch o).Unarmed := by
  rw [s.latch_eq o]
  exact h

theorem State.offerTo_of_unarmed {s : State} (h : s.Unarmed) (o : Occurrence) (i : EntryId) :
    State.offerTo o s i = s := by
  unfold State.offerTo
  split
  · rfl
  · next e he => simp [ReactionEntry.ready, h i e he]

theorem State.offerAll_of_unarmed {s : State} (h : s.Unarmed) (o : Occurrence) (is : List EntryId) :
    is.foldl (State.offerTo o) s = s := by
  induction is with
  | nil => rfl
  | cons i is ih => rw [List.foldl_cons, State.offerTo_of_unarmed h, ih]

/-- With no armed entry a trigger passes without effect (R135). -/
theorem State.react_of_unarmed {s : State} (h : s.Unarmed) (o : Occurrence) : s.react o = s := by
  unfold State.react
  exact State.offerAll_of_unarmed h o _

/-- With no armed entry an occurrence is latched and nothing more. -/
theorem State.raise_of_unarmed {s : State} (h : s.Unarmed) (o : Occurrence) : s.raise o = s.latch o := by
  unfold State.raise
  exact State.react_of_unarmed (h.latch o) o

/-- With no armed entry several occurrences are latched in order. -/
theorem State.raiseAll_of_unarmed {s : State} (h : s.Unarmed) (os : List Occurrence) : s.raiseAll os = s.latchAll os := by
  unfold State.raiseAll State.latchAll
  induction os generalizing s with
  | nil => rw [List.foldl_nil, List.foldl_nil]
  | cons o os ih =>
    rw [List.foldl_cons, List.foldl_cons, State.raise_of_unarmed h]
    exact ih (h.latch o)

end Sys2Proof.Machine
end

