-- ==== Sys2Proof/Laws/Places.lean ====
section
/-! SUPPORT. The places of the result queue, the reservations and the two places of the engine (R43, R56, R80, R89) under
every operation of the engine, the result unit and the reaction unit. -/
namespace Sys2Proof.Machine

/-- The law of places while `owed` reservations belong to a job that has just left the engine. -/
structure State.Owes (s : State) (owed : Nat) : Prop where
  reservations : s.results.reservations = heldBy s.engine.active + heldBy s.engine.parked + owed
  places : s.results.queue.length + s.results.reservations ≤ 16
  parked : ∀ j, s.engine.parked = some j → j.isSurvey = true
  probe : ∀ j, s.engine.active = some j → j.isProbe = true → j.reserved = false
  one : ∀ j, s.engine.active = some j → j.isSurvey = true → s.engine.parked = none
  spots : s.spots.length ≤ 8

theorem State.PlaceLaw.owes {s : State} (l : s.PlaceLaw) : s.Owes 0 :=
  ⟨l.reservations, l.places, l.parked, l.probe, l.one, l.spots⟩

theorem State.Owes.placeLaw {s : State} (l : s.Owes 0) (h : s.engine.handingOver = false) : s.PlaceLaw :=
  ⟨l.reservations, l.places, l.parked, l.probe, l.one, h, l.spots⟩

/-- The law reads the engine, the queue of results, the reservations and the spot queue alone. -/
theorem State.Owes.congr {s t : State} {k : Nat} (l : s.Owes k) (he : t.engine = s.engine)
    (hq : t.results.queue.length = s.results.queue.length) (hr : t.results.reservations = s.results.reservations)
    (hs : t.spots = s.spots) : t.Owes k := by
  refine ⟨?_, ?_, ?_, ?_, ?_, ?_⟩
  · rw [he, hr]; exact l.reservations
  · rw [hq, hr]; exact l.places
  · rw [he]; exact l.parked
  · rw [he]; exact l.probe
  · rw [he]; exact l.one
  · rw [hs]; exact l.spots

theorem State.Owes.latch {s : State} {k : Nat} (l : s.Owes k) (o : Occurrence) : (s.latch o).Owes k := by
  rw [s.latch_eq o]; exact l.congr rfl rfl rfl rfl

theorem State.Owes.latchAll {s : State} {k : Nat} (l : s.Owes k) (os : List Occurrence) : (s.latchAll os).Owes k := by
  rw [s.latchAll_eq os]; exact l.congr rfl rfl rfl rfl

theorem State.Owes.modPort {s : State} {k : Nat} (l : s.Owes k) (p : PortId) (f : Port → Port) :
    (s.modPort p f).Owes k := l.congr rfl rfl rfl rfl

/-! ## The result unit -/

/-- A free reservation means a place below the sixteenth (R89). -/
theorem Results.lt_of_hasFree {u : Results} (h : u.hasFree = true) : u.queue.length + u.reservations < 16 :=
  of_decide_eq_true h

/-- What the disposal of a completion does to the places (R90, R92, R93). -/
theorem disposeResult_places (c : Completion) (id : Word16) (now : Word32) (vs : List Verdict) (u : Results)
    (lost : Nat) (hr : c.job.reserved = true → 1 ≤ u.reservations)
    (hp : u.queue.length + u.reservations ≤ 16) :
    (disposeResult c id now vs u lost).1.reservations + heldBy (some c.job) = u.reservations ∧
      (disposeResult c id now vs u lost).1.queue.length + (disposeResult c id now vs u lost).1.reservations ≤ 16 := by
  have hdrop : ∀ q q' : List ResultRec, dropOldestSurvey q = some q' → q'.length + 1 = q.length := by
    intro q
    induction q with
    | nil => intro q' h; cases h
    | cons r rest ih =>
      intro q' h
      unfold dropOldestSurvey at h
      split at h
      · cases h; rfl
      · cases hd : dropOldestSurvey rest with
        | none => rw [hd] at h; cases h
        | some x => rw [hd] at h; cases h; simp [ih x hd]
  unfold disposeResult heldBy
  by_cases h : c.job.reserved = true
  · have := hr h
    simp only [h, if_true, List.length_append, List.length_cons, List.length_nil]
    omega
  · simp only [h]
    cases c.job.report with
    | silent => simp; omega
    | none => simp; omega
    | reported =>
      simp only [placeUnreserved]
      by_cases hf : u.hasFree = true
      · have : u.queue.length + u.reservations < 16 := Results.lt_of_hasFree hf
        simp [hf]; omega
      · simp only [hf]
        cases hd : dropOldestSurvey u.queue with
        | none => simp; omega
        | some q =>
          have := hdrop _ _ hd
          simp; omega

theorem Results.takeId_test (c : Completion) (u : Results) :
    ((u.takeId c.job.report).test c).1.queue = u.queue ∧
      ((u.takeId c.job.report).test c).1.reservations = u.reservations := by
  have h1 : (u.takeId c.job.report).queue = u.queue ∧ (u.takeId c.job.report).reservations = u.reservations := by
    unfold Results.takeId; split <;> exact ⟨rfl, rfl⟩
  have h2 : ∀ v : Results, (v.test c).1.queue = v.queue ∧ (v.test c).1.reservations = v.reservations := by
    intro v
    unfold Results.test
    split
    · exact ⟨rfl, rfl⟩
    · generalize evaluateMonitors _ _ _ _ _ = mv
      exact ⟨rfl, rfl⟩
  exact ⟨(h2 _).1.trans h1.1, (h2 _).2.trans h1.2⟩

theorem State.Owes.handleResult {s : State} {k : Nat} (c : Completion) (l : s.Owes (heldBy (some c.job) + k)) :
    (s.handleResult c).1.Owes k := by
  obtain ⟨hq, hr⟩ := Results.takeId_test c s.results
  have hd := disposeResult_places c s.results.nextId s.timebase ((s.results.takeId c.job.report).test c).2
    ((s.results.takeId c.job.report).test c).1 s.survey.lost
    (by
      intro h
      rw [hr, l.reservations]
      simp only [heldBy, h, if_true]; omega)
    (by rw [hq, hr]; exact l.places)
  refine ⟨?_, ?_, l.parked, l.probe, l.one, l.spots⟩
  · have h1 := l.reservations
    have h2 := hd.1
    rw [hr, h1] at h2
    have h3 : (s.handleResult c).1.results.reservations + heldBy (some c.job) =
        heldBy s.engine.active + heldBy s.engine.parked + (heldBy (some c.job) + k) := h2
    have h4 : heldBy (s.handleResult c).1.engine.active = heldBy s.engine.active := rfl
    have h5 : heldBy (s.handleResult c).1.engine.parked = heldBy s.engine.parked := rfl
    omega
  · exact hd.2

theorem State.Owes.discardProbe {s : State} {k : Nat} (l : s.Owes k) (p : PortId) : (s.discardProbe p).Owes k := by
  unfold State.discardProbe
  split
  · exact l.modPort p _
  · exact l

/-- A job that has left the engine is handed over, and its reservation becomes a record (R52). -/
theorem State.Owes.deliverUntested {s : State} (j : Job) (status : JobStatus) (hp : j.isProbe = true → j.reserved = false)
    (l : s.Owes (heldBy (some j))) : (s.deliverUntested j status).Owes 0 := by
  unfold State.deliverUntested
  split
  · next p hj =>
    have : heldBy (some j) = 0 := by
      have := hp (by simp [Job.isProbe, hj])
      simp [heldBy, this]
    rw [this] at l
    exact l.discardProbe p
  · exact (State.Owes.handleResult (k := 0) { job := j, status := status, value := none } l).latchAll _
  · exact (State.Owes.handleResult (k := 0) { job := j, status := status, value := none } l).latchAll _

/-- The active job leaves the engine. -/
theorem State.Owes.activeLeaves {s : State} {j : Job} (l : s.Owes 0) (h : s.engine.active = some j) :
    (s.setActive none).Owes (heldBy (some j)) := by
  refine ⟨?_, l.places, l.parked, ?_, ?_, l.spots⟩
  · have := l.reservations
    rw [h] at this
    simp only [State.setActive, heldBy] at this ⊢
    omega
  · intro k hk; cases hk
  · intro k hk; cases hk

theorem State.Owes.parkedLeaves {s : State} {j : Job} (l : s.Owes 0) (h : s.engine.parked = some j) :
    (s.setParked none).Owes (heldBy (some j)) := by
  refine ⟨?_, l.places, ?_, l.probe, fun _ _ _ => rfl, l.spots⟩
  · have := l.reservations
    rw [h] at this
    simp only [State.setParked, heldBy] at this ⊢
    omega
  · intro k hk; cases hk

/-- A job enters the free active place. -/
theorem State.Owes.enters {s t : State} (j : Job) (l : s.Owes (heldBy (some j))) (hn : s.engine.active = none)
    (ha : t.engine.active = some j) (hpk : t.engine.parked = s.engine.parked)
    (hq : t.results = s.results) (hs : t.spots = s.spots)
    (hp : j.isProbe = true → j.reserved = false) (h1 : j.isSurvey = true → s.engine.parked = none) : t.Owes 0 := by
  refine ⟨?_, ?_, ?_, ?_, ?_, ?_⟩
  · have := l.reservations
    rw [hn] at this
    rw [hq, ha, hpk]
    simp only [heldBy] at this ⊢
    omega
  · rw [hq]; exact l.places
  · rw [hpk]; exact l.parked
  · intro k hk; rw [ha] at hk; cases hk; exact hp
  · intro k hk; rw [ha] at hk; cases hk; rw [hpk]; exact h1
  · rw [hs]; exact l.spots

/-- The active job is replaced by a later state of itself. -/
theorem State.Owes.update {s : State} {j k : Job} (l : s.Owes 0) (h : s.engine.active = some j)
    (hr : k.reserved = j.reserved) (ho : k.origin = j.origin) : (s.setActive (some k)).Owes 0 := by
  have hv : k.isSurvey = j.isSurvey := by simp [Job.isSurvey, ho]
  have hpr : k.isProbe = j.isProbe := by simp [Job.isProbe, ho]
  refine ⟨?_, l.places, l.parked, ?_, ?_, l.spots⟩
  · have := l.reservations
    rw [h] at this
    simp only [State.setActive, heldBy, hr] at this ⊢
    omega
  · intro i hi; cases hi; rw [hpr, hr]; exact l.probe j h
  · intro i hi; cases hi; rw [hv]; exact l.one j h

theorem State.Owes.endActive {s : State} (l : s.Owes 0) (status : JobStatus) : (s.endActive status).Owes 0 := by
  unfold State.endActive
  split
  · exact l
  · next j h => exact State.Owes.deliverUntested j status (l.probe j h) (l.activeLeaves h)

theorem Job.isProbe_of_survey {j : Job} (h : j.isSurvey = true) : j.isProbe = false := by
  unfold Job.isSurvey at h
  unfold Job.isProbe
  split at h <;> simp_all

theorem State.Owes.endParked {s : State} (l : s.Owes 0) (status : JobStatus) : (s.endParked status).Owes 0 := by
  unfold State.endParked
  split
  · exact l
  · next j h =>
    refine State.Owes.deliverUntested j status ?_ (l.parkedLeaves h)
    intro hp
    rw [Job.isProbe_of_survey (l.parked j h)] at hp
    cases hp

theorem State.Owes.enterGated {s : State} {j : Job} (k : Job) (l : s.Owes 0) (h : s.engine.active = some j)
    (hr : k.reserved = j.reserved) (ho : k.origin = j.origin) : (s.enterGated k).Owes 0 := by
  unfold State.enterGated
  split
  · exact (l.update h hr ho).endActive _
  · exact l.update h hr ho

theorem State.Owes.settled {s : State} {j : Job} (k : Job) (l : s.Owes 0) (h : s.engine.active = some j)
    (hr : k.reserved = j.reserved) (ho : k.origin = j.origin) : (s.settled k).Owes 0 := by
  unfold State.settled
  split
  · split
    · exact l.update h hr ho
    · exact l.enterGated k h hr ho
  · exact l.update h hr ho

/-- The multiplexer moves to a job that takes the free active place. -/
theorem State.Owes.enterSettling {s : State} (j : Job) (l : s.Owes (heldBy (some j))) (hn : s.engine.active = none)
    (hp : j.isProbe = true → j.reserved = false) (h1 : j.isSurvey = true → s.engine.parked = none) :
    (s.enterSettling j).Owes 0 := by
  unfold State.enterSettling
  simp only
  have l1 := State.Owes.enters (s := s)
    (t := { s with engine := { s.engine with
      mux := some (j.port, j.quantity)
      active := some { j with phase := .settling, settleLeft := settleTicks j.quantity, sample := .idle } } })
    { j with phase := .settling, settleLeft := settleTicks j.quantity, sample := .idle } l hn rfl rfl rfl rfl hp h1
  split
  · exact l1.settled _ rfl rfl rfl
  · exact l1

theorem State.Owes.startJob {s : State} (j : Job) (l : s.Owes (heldBy (some j))) (hn : s.engine.active = none)
    (hp : j.isProbe = true → j.reserved = false) (h1 : j.isSurvey = true → s.engine.parked = none) :
    (s.startJob j).Owes 0 := by
  unfold State.startJob
  split
  · exact l.enterSettling j hn hp h1
  · exact State.Owes.deliverUntested j _ hp l

theorem State.Owes.progressPass {s : State} {k : Nat} (l : s.Owes k) : s.progressPass.Owes k := by
  unfold State.progressPass
  split
  · exact l.congr rfl rfl rfl rfl
  · exact l

theorem State.progressPass_engine (s : State) : s.progressPass.engine = s.engine := by
  unfold State.progressPass; split <;> rfl

/-- A reservation is granted while one is free (R90). -/
theorem State.Owes.reserve {s : State} (l : s.Owes 0) (held : Bool) (hf : held = true → s.results.hasFree = true) :
    (s.reserve held).Owes (if held then 1 else 0) := by
  unfold State.reserve
  split
  · next h =>
    have hf := hf h
    have : s.results.queue.length + s.results.reservations < 16 := Results.lt_of_hasFree hf
    refine ⟨?_, ?_, l.parked, l.probe, l.one, l.spots⟩
    · have := l.reservations
      simp only; omega
    · simp only; omega
  · exact l

theorem State.reserve_engine (s : State) (held : Bool) : (s.reserve held).engine = s.engine := by
  unfold State.reserve; split <;> rfl

/-- What R54 chooses is ready: a spot has a free reservation, the parked job stands parked, and an offered entry that
needs a reservation has one free and no survey job beside it. -/
theorem State.nextChoice_ready {s : State} {c : Choice} (h : s.nextChoice = some c) :
    match c with
    | .probe _ => True
    | .spot r rest => s.spots = r :: rest ∧ s.results.hasFree = true
    | .resume j => s.engine.parked = some j
    | .survey _ e => s.engine.hasSurvey = false ∧ (s.survey.needsFree e = true → s.results.hasFree = true) := by
  unfold State.nextChoice at h
  split at h
  · cases h; trivial
  · split at h
    · next r rest hs =>
      cases h
      unfold State.startableSpot at hs
      split at hs
      · cases hs
      · next r' rest' hq =>
        split at hs
        · next hf => cases hs; exact ⟨hq, hf⟩
        · cases hs
    · split at h
      · next j hj => cases h; exact hj
      · split at h
        · next i e ho =>
          cases h
          unfold State.offer at ho
          split at ho
          · cases ho
          · next i' e' hr =>
            split at ho
            · cases ho
            · next hn =>
              cases ho
              unfold State.reachedEntry at hr
              split at hr
              · next hc =>
                refine ⟨hc.2.2, fun hneed => ?_⟩
                by_cases hf : s.results.hasFree = true
                · exact hf
                · simp [hneed, hf] at hn
              · cases hr
        · cases h

theorem State.Owes.takeChoice {s : State} {c : Choice} (l : s.Owes 0) (hn : s.engine.active = none)
    (h : s.nextChoice = some c) : (s.takeChoice c).Owes 0 := by
  have hr := State.nextChoice_ready h
  unfold State.takeChoice
  split
  · next p =>
    refine State.Owes.startJob (probeJob p) ?_ hn (fun _ => rfl) fun h => by cases h
    exact l.modPort p _
  · next r rest =>
    obtain ⟨hq, hf⟩ := hr
    have l1 : ({ s with spots := rest } : State).Owes 0 := by
      refine ⟨l.reservations, l.places, l.parked, l.probe, l.one, ?_⟩
      have := l.spots
      rw [hq] at this
      simp only [List.length_cons] at this ⊢
      omega
    have l2 := l1.reserve true fun _ => hf
    refine State.Owes.startJob (spotJob r) l2 ?_ (fun h => by cases h) fun h => by cases h
    rw [State.reserve_engine]; exact hn
  · next j =>
    have hj : s.engine.parked = some j := hr
    refine State.Owes.enterSettling j (l.parkedLeaves hj) hn ?_ fun _ => rfl
    intro hp
    rw [Job.isProbe_of_survey (l.parked j hj)] at hp
    cases hp
  · next i e =>
    obtain ⟨hs, hf⟩ := hr
    have l1 : ({ s with survey := { s.survey with cursor := i.val + 1 } } : State).Owes 0 := l.congr rfl rfl rfl rfl
    have l2 := l1.reserve (surveyJob s.survey i e).reserved hf
    refine State.Owes.startJob (surveyJob s.survey i e) l2 ?_ (fun h => by cases h) fun _ => ?_
    · rw [State.reserve_engine]; exact hn
    · rw [State.reserve_engine]
      simp only [Engine.hasSurvey, Bool.or_eq_false_iff] at hs
      cases hpk : s.engine.parked with
      | none => rfl
      | some k =>
        have h2 := hs.2
        rw [hpk] at h2
        rw [Option.any_some, l.parked k hpk] at h2
        cases h2

theorem State.Owes.chooseLoop {s : State} (l : s.Owes 0) (fuel : Nat) : (s.chooseLoop fuel).Owes 0 := by
  induction fuel generalizing s with
  | zero => exact l
  | succ fuel ih =>
    unfold State.chooseLoop
    split
    · exact l
    · next ha =>
      simp only
      have hn : s.engine.active = none := by
        cases h : s.engine.active with
        | none => rfl
        | some j => rw [h] at ha; exact absurd rfl ha
      split
      · exact l.progressPass
      · next c hc =>
        exact ih (l.progressPass.takeChoice (by rw [State.progressPass_engine]; exact hn) hc)

theorem State.Owes.parkActive {s : State} {j : Job} (l : s.Owes 0) (h : s.engine.active = some j)
    (hs : j.isSurvey = true) : (s.parkActive j).Owes 0 := by
  have hpk := l.one j h hs
  have hres : (j.park s.survey.policy).reserved = j.reserved := by unfold Job.park; split <;> rfl
  have horg : (j.park s.survey.policy).origin = j.origin := by unfold Job.park; split <;> rfl
  refine ⟨?_, l.places, ?_, ?_, ?_, l.spots⟩
  · have := l.reservations
    rw [h, hpk] at this
    simp only [State.parkActive, heldBy, hres] at this ⊢
    omega
  · intro k hk
    cases hk
    simpa [Job.isSurvey, horg] using hs
  · intro k hk; cases hk
  · intro k hk; cases hk

theorem State.Owes.wakeEngine {s : State} (l : s.Owes 0) : s.wakeEngine.Owes 0 := by
  unfold State.wakeEngine
  split
  · exact l
  · simp only
    split
    · exact l.progressPass.chooseLoop _
    · next j h =>
      split
      · next hp =>
        simp only [Bool.and_eq_true] at hp
        exact (l.progressPass.parkActive h hp.1).chooseLoop _
      · exact l.progressPass

theorem State.Owes.engineOpening {s : State} (l : s.Owes 0) (p : PortId) : (s.engineOpening p).Owes 0 := by
  unfold State.engineOpening
  refine State.Owes.wakeEngine ?_
  have l1 : (s.endActiveOn p).Owes 0 := by
    unfold State.endActiveOn; split
    · exact l.endActive _
    · exact l
  unfold State.endParkedOn; split
  · exact l1.endParked _
  · exact l1

theorem State.Owes.openSwitch {s : State} (l : s.Owes 0) (p : PortId) : (s.openSwitch p).Owes 0 :=
  State.Owes.engineOpening (l.modPort p _) p

theorem State.Owes.isolatePort {s : State} (l : s.Owes 0) (p : PortId) (cause : IsolationCause) :
    (s.isolatePort p cause).Owes 0 := by
  unfold State.isolatePort
  simp only
  split
  · exact State.Owes.openSwitch (l.modPort p _) p
  · exact l.modPort p _

theorem State.Owes.joinPort {s : State} (l : s.Owes 0) (p : PortId) : (s.joinPort p).Owes 0 := by
  unfold State.joinPort
  split
  · exact l
  · exact State.Owes.modPort (l.modPort p _) p _

theorem State.Owes.resumeSurvey {s : State} (l : s.Owes 0) : s.resumeSurvey.Owes 0 := by
  unfold State.resumeSurvey
  refine State.Owes.wakeEngine ?_
  unfold State.resumeWork
  split
  · exact State.Owes.progressPass (l.congr rfl rfl rfl rfl)
  · exact l.congr rfl rfl rfl rfl

theorem State.Owes.queueSpot {s : State} (l : s.Owes 0) (r : SpotRequest) (h : s.spots.length < 8) :
    (s.queueSpot r).Owes 0 := by
  unfold State.queueSpot
  refine State.Owes.wakeEngine ⟨l.reservations, l.places, l.parked, l.probe, l.one, ?_⟩
  simp only [List.length_append, List.length_cons, List.length_nil]
  omega

theorem State.Owes.cancelSpots {s : State} (l : s.Owes 0) (tag : Byte) : (s.cancelSpots tag).Owes 0 := by
  unfold State.cancelSpots
  refine State.Owes.wakeEngine ⟨l.reservations, l.places, l.parked, l.probe, l.one, ?_⟩
  exact Nat.le_trans (List.length_filter_le _ _) l.spots

/-- A reservation is released without a record (R91). -/
theorem State.Owes.release {s : State} {j : Job} (l : s.Owes (heldBy (some j))) : (s.release j.reserved).Owes 0 := by
  unfold State.release
  split
  · next h =>
    have := l.reservations
    have hp := l.places
    simp only [heldBy, h, if_true] at this
    exact ⟨by simp only [heldBy] at this ⊢; omega, by simp only; omega, l.parked, l.probe, l.one, l.spots⟩
  · next h => simpa [heldBy, h] using l

theorem State.Owes.stopSurvey {s : State} (l : s.Owes 0) : s.stopSurvey.Owes 0 := by
  unfold State.stopSurvey
  refine State.Owes.wakeEngine ?_
  have l0 : ({ s with survey := s.survey.stop } : State).Owes 0 := l.congr rfl rfl rfl rfl
  generalize ({ s with survey := s.survey.stop } : State) = s0 at l0
  have l1 : s0.discardActiveSurvey.Owes 0 := by
    unfold State.discardActiveSurvey
    split
    · exact l0
    · next j h =>
      split
      · exact (l0.activeLeaves h).release
      · exact l0
  unfold State.discardParkedSurvey
  split
  · exact l1
  · next j h =>
    split
    · exact (l1.parkedLeaves h).release
    · exact l1

/-! ## Reactions and completions -/

theorem State.Owes.performAction {s : State} (l : s.Owes 0) (i : EntryId) (c : ReactionConfig)
    (trigger : Option PortId) : (s.performAction i c trigger).1.Owes 0 := by
  unfold State.performAction
  split
  · split
    · exact (l.isolatePort _ .reaction).latch (.reacted _)
    · exact l
  · split
    · exact l.joinPort _
    · exact l
  · split
    · split
      · next h => exact l.queueSpot _ (by simpa [spotPlaces] using h)
      · exact l
    · exact l
  · split
    · exact l.latch (.note _ i)
    · exact l
  · split
    · exact l.congr rfl rfl rfl rfl
    · exact l
  · split
    · exact l.resumeSurvey
    · exact l

theorem State.Owes.fire {s : State} (l : s.Owes 0) (i : EntryId) (e : ReactionEntry) (trigger : Option PortId) :
    (s.fire i e trigger).Owes 0 := by
  have h1 : ((s.performAction i e.config trigger).1.recordFiring i e (s.performAction i e.config trigger).2).Owes 0 :=
    (l.performAction i e.config trigger).congr rfl rfl rfl rfl
  unfold State.fire State.reportOutcome
  simp only
  split
  · exact h1
  · exact h1
  · exact h1.latch _
  · exact h1.latch _

theorem State.Owes.offerAll {s : State} (l : s.Owes 0) (o : Occurrence) (is : List EntryId) :
    (is.foldl (State.offerTo o) s).Owes 0 := by
  induction is generalizing s with
  | nil => exact l
  | cons i is ih =>
    rw [List.foldl_cons]
    refine ih ?_
    unfold State.offerTo
    split
    · exact l
    · split
      · exact l.fire _ _ _
      · exact l

theorem State.Owes.raise {s : State} (l : s.Owes 0) (o : Occurrence) : (s.raise o).Owes 0 := by
  unfold State.raise State.react
  exact State.Owes.offerAll (l.latch o) o _

theorem State.Owes.raiseAll {s : State} (l : s.Owes 0) (os : List Occurrence) : (s.raiseAll os).Owes 0 := by
  unfold State.raiseAll
  induction os generalizing s with
  | nil => exact l
  | cons o os ih =>
    rw [List.foldl_cons]
    exact ih (l.raise o)

theorem State.Owes.failProbe {s : State} (l : s.Owes 0) (p : PortId) (tripped : Bool) : (s.failProbe p tripped).Owes 0 := by
  unfold State.failProbe State.retryStep
  exact (State.Owes.openSwitch (l.modPort p _) p).raiseAll _

theorem State.Owes.overcurrent {s : State} (l : s.Owes 0) (p : PortId) : (s.overcurrent p).Owes 0 := by
  unfold State.overcurrent
  split
  · exact l
  · exact l
  · exact (State.Owes.openSwitch (l.modPort p _) p).raise _
  · exact l.failProbe p _

theorem State.Owes.judgeProbe {s : State} (l : s.Owes 0) (p : PortId) (value : Nat) : (s.judgeProbe p value).Owes 0 := by
  unfold State.judgeProbe
  split
  · have l1 : (s.modSwitch p fun _ w => { w with slot := .empty, lastProbe := some value }).Owes 0 := l.modPort p _
    unfold State.probeVerdict
    split
    · exact l1.modPort p _
    · exact l1.failProbe p _
  · exact l

theorem State.Owes.deliverOk {s : State} (j : Job) (hp : j.isProbe = true → j.reserved = false)
    (l : s.Owes (heldBy (some j))) : (s.deliverOk j).Owes 0 := by
  unfold State.deliverOk
  simp only
  split
  · next p hj =>
    have : heldBy (some j) = 0 := by
      have := hp (by simp [Job.isProbe, hj])
      simp [heldBy, this]
    rw [this] at l
    exact l.judgeProbe _ _
  · exact (State.Owes.handleResult (k := 0) { job := j, status := .ok, value := some (jobValue j.shift j.sum) } l).raiseAll _
  · exact (State.Owes.handleResult (k := 0) { job := j, status := .ok, value := some (jobValue j.shift j.sum) } l).raiseAll _

end Sys2Proof.Machine
end

