-- ==== Sys2Proof/Laws/Ports.lean ====
section
/-! SUPPORT. The laws of a port (R21 to R32, R106) under every operation on ports. -/
namespace Sys2Proof.Machine

/-- Both laws of a port. -/
def Port.Law (r : Port) : Prop := r.SwitchLaw ∧ r.ClassifierLaw

/-- Both laws of every port. -/
def State.PortsLaw (s : State) : Prop := ∀ p, (s.port p).Law

/-- The classifier's law reads the condition record and the parameters alone. -/
theorem Port.ClassifierLaw.congr {a b : Port} (l : a.ClassifierLaw) (hc : b.cond = a.cond) (hp : b.params = a.params) :
    b.ClassifierLaw := by
  obtain ⟨tap, cond, params, switch, good⟩ := b
  simp only at hc hp
  subst hc hp
  exact ⟨l.ceiling, l.ceilingPositive, l.drain, l.dark, l.gate, l.quietRun, l.activeRun, l.dwell⟩

/-- The law looks at the probe slot only where it must be empty. -/
theorem Port.SameButSlot.law {a b : Port} (h : a.SameButSlot b) (l : a.Law) : b.Law := by
  obtain ⟨ls, lc⟩ := l
  refine ⟨⟨?_, ?_, ?_, ?_, ?_, ?_, ?_, ?_, ?_⟩, lc.congr h.cond h.params⟩
  · rw [h.state, h.cond]; exact ls.dark
  · rw [h.state, h.cond]; exact ls.sense
  · rw [h.state]; exact fun e => h.slot (ls.slot e)
  · rw [h.state, h.settle]; exact ls.settle
  · rw [h.state, h.hold]; exact ls.hold
  · rw [h.params]; exact ls.maxRetries
  · rw [h.retries, h.params]; exact ls.retries
  · rw [h.state, h.retries, h.params]; exact ls.trying
  · rw [h.state, h.retries]; exact ls.joined

theorem EngineKeeps.portsLaw {s t : State} (h : EngineKeeps s t) (l : s.PortsLaw) : t.PortsLaw :=
  fun p => (h.port p).law (l p)

/-- A change of one port that keeps the law of that port. -/
theorem State.PortsLaw.modPort {s : State} (l : s.PortsLaw) (p : PortId) (f : Port → Port)
    (h : (f (s.port p)).Law) : (s.modPort p f).PortsLaw := by
  intro q
  rw [State.port_modPort]
  split
  · exact h
  · exact l q

theorem State.PortsLaw.congr {s t : State} (l : s.PortsLaw) (h : t.ports = s.ports) : t.PortsLaw := by
  intro p
  rw [State.port_congr h]
  exact l p

/-! ## Openings, closings and the switch's own moves -/

/-- What the opening leaves of the classifier. -/
theorem CondRec.switchOpens_law (now : Word32) (r : CondRec) :
    (r.switchOpens now).condition = .dark ∧ (r.switchOpens now).cause = .switched ∧ (r.switchOpens now).sense = none ∧
      (r.switchOpens now).noiseLevel = 0 ∧ (r.switchOpens now).drain = none ∧ (r.switchOpens now).quietGate = false ∧
      (r.switchOpens now).quietRun = 0 ∧ (r.switchOpens now).activeRun = 0 ∧ (r.switchOpens now).dwell = 0 := by
  simp [CondRec.switchOpens, CondRec.enter, CondRec.darken]

/-- An opening port: a record that has moved to ISOLATED or HOLDOFF, under a forced DARK. -/
theorem Port.opened_law {r : Port} (l : r.Law) (now : Word32) (w : SwitchRec)
    (hopen : w.state.closed = false) (hslot : w.slot = .empty) (hsettle : w.settle = none)
    (hhold : w.state ≠ .holdoff → w.hold = none) (hr : w.retries ≤ r.params.maxRetries)
    (ht : w.state ≠ .isolated → w.retries < r.params.maxRetries) :
    Port.Law { r with switch := w, tap := r.tap.switchOpens, cond := r.cond.switchOpens now } := by
  obtain ⟨h1, h2, h3, h4, h5, h6, h7, h8, h9⟩ := CondRec.switchOpens_law now r.cond
  refine ⟨⟨fun _ => ⟨h1, h2⟩, fun _ => h3, fun _ => hslot, fun _ => hsettle, hhold, l.1.maxRetries, hr, ht, ?_⟩,
    ⟨?_, l.2.ceilingPositive, ?_, fun _ => h4, ?_, ?_, ?_, ?_⟩⟩
  · intro hj
    simp only at hj
    rw [hj] at hopen
    cases hopen
  · simp only [h4]; exact Nat.zero_le _
  · simp [h4, h5]
  · simp [h6]
  · simp [h7]
  · simp [h8]
  · simp [h9]

theorem SwitchRec.isolate_fields (cause : IsolationCause) (w : SwitchRec) :
    (w.isolate cause).state = .isolated ∧ (w.isolate cause).slot = .empty ∧ (w.isolate cause).settle = none ∧
      (w.isolate cause).hold = none ∧ (w.isolate cause).retries = w.retries := ⟨rfl, rfl, rfl, rfl, rfl⟩

/-- An opening, from the change of the record to the engine's own part. -/
theorem State.PortsLaw.opening {s : State} (l : s.PortsLaw) (p : PortId) (f : Params → SwitchRec → SwitchRec)
    (hopen : (f (s.port p).params (s.port p).switch).state.closed = false)
    (hslot : (f (s.port p).params (s.port p).switch).slot = .empty)
    (hsettle : (f (s.port p).params (s.port p).switch).settle = none)
    (hhold : (f (s.port p).params (s.port p).switch).state ≠ .holdoff →
      (f (s.port p).params (s.port p).switch).hold = none)
    (hr : (f (s.port p).params (s.port p).switch).retries ≤ (s.port p).params.maxRetries)
    (ht : (f (s.port p).params (s.port p).switch).state ≠ .isolated →
      (f (s.port p).params (s.port p).switch).retries < (s.port p).params.maxRetries) :
    ((s.modSwitch p f).openSwitch p).PortsLaw := by
  refine (State.engineOpening_keeps _ p).portsLaw ?_
  intro q
  unfold State.forceDark State.modSwitch
  rw [State.port_modPort, State.port_modPort, State.port_modPort]
  by_cases hq : q = p
  · subst hq
    simp only [if_true]
    exact Port.opened_law (l q) _ _ hopen hslot hsettle hhold hr ht
  · simp only [hq, if_false]
    exact l q

/-- A record alone moved to ISOLATED from an open state. -/
theorem State.PortsLaw.isolatePort {s : State} (l : s.PortsLaw) (p : PortId) (cause : IsolationCause) :
    (s.isolatePort p cause).PortsLaw := by
  unfold State.isolatePort
  simp only
  split
  · exact l.opening p _ rfl rfl rfl (fun _ => rfl) (l p).1.retries fun h => absurd rfl h
  · next h =>
    refine l.modPort p _ ⟨⟨?_, ?_, fun _ => rfl, fun _ => rfl, fun _ => rfl, (l p).1.maxRetries, (l p).1.retries,
      fun h => absurd rfl h, fun h => by cases h⟩, (l p).2.congr rfl rfl⟩
    · exact fun _ => (l p).1.dark (by simpa [State.closed] using h)
    · exact fun _ => (l p).1.sense (by simpa [State.closed] using h)

/-- The classifier after a closing. -/
theorem CondRec.switchCloses_law (now : Word32) (good : Bool) (r : CondRec) :
    (r.switchCloses now good).condition = .unseen ∧ (r.switchCloses now good).noiseLevel = r.noiseLevel ∧
      (r.switchCloses now good).drain = r.drain ∧ (r.switchCloses now good).quietGate = false ∧
      (r.switchCloses now good).quietRun = r.quietRun ∧ (r.switchCloses now good).activeRun = r.activeRun ∧
      (r.switchCloses now good).dwell = 0 := by
  simp [CondRec.switchCloses, CondRec.enter]

/-- A closing port: a record that has moved to PROBING. -/
theorem Port.closed_law {r : Port} (l : r.Law) (now : Word32) (w : SwitchRec) (hst : w.state = .probing)
    (hhold : w.hold = none) (hr : w.retries < r.params.maxRetries) :
    Port.Law { r with switch := w, tap := r.tap.switchCloses, cond := r.cond.switchCloses now r.powerGood } := by
  obtain ⟨h1, h2, h3, h4, h5, h6, h7⟩ := CondRec.switchCloses_law now r.powerGood r.cond
  refine ⟨⟨?_, ?_, ?_, ?_, fun _ => hhold, l.1.maxRetries, Nat.le_of_lt hr, fun _ => hr, ?_⟩,
    ⟨?_, l.2.ceilingPositive, ?_, ?_, ?_, ?_, ?_, ?_⟩⟩
  · intro h; simp only [hst] at h; cases h
  · intro h; simp only [hst] at h; cases h
  · intro h; exact absurd hst h
  · intro h; exact absurd hst h
  · intro h; simp only [hst] at h; cases h
  · simp only [h2]; exact l.2.ceiling
  · simp only [h2, h3]; exact l.2.drain
  · intro h; simp only [h1] at h; cases h
  · intro h; simp only [h4] at h; cases h
  · simp only [h5]; exact l.2.quietRun
  · simp only [h6]; exact l.2.activeRun
  · simp only [h7]; exact Nat.zero_le _

theorem State.PortsLaw.closing {s : State} (l : s.PortsLaw) (p : PortId) (f : Params → SwitchRec → SwitchRec)
    (hst : (f (s.port p).params (s.port p).switch).state = .probing)
    (hhold : (f (s.port p).params (s.port p).switch).hold = none)
    (hr : (f (s.port p).params (s.port p).switch).retries < (s.port p).params.maxRetries) :
    ((s.modSwitch p f).closeSwitch p).PortsLaw := by
  intro q
  unfold State.closeSwitch State.modSwitch
  rw [State.port_modPort, State.port_modPort, State.port_modPort]
  by_cases hq : q = p
  · subst hq
    simp only [if_true]
    exact Port.closed_law (l q) _ _ hst hhold hr
  · simp only [hq, if_false]
    exact l q

theorem State.PortsLaw.joinPort {s : State} (l : s.PortsLaw) (p : PortId) : (s.joinPort p).PortsLaw := by
  unfold State.joinPort
  split
  · exact l
  · exact l.closing p _ rfl rfl (l p).1.maxRetries

theorem State.PortsLaw.holdExpires {s : State} (l : s.PortsLaw) (p : PortId)
    (h : (s.port p).switch.state = .holdoff) : (s.holdExpires p).PortsLaw :=
  l.closing p _ rfl rfl ((l p).1.trying (by rw [h]; decide))

theorem State.PortsLaw.tripJoined {s : State} (l : s.PortsLaw) (p : PortId) : (s.tripJoined p).PortsLaw :=
  l.opening p _ rfl rfl rfl (fun h => absurd rfl h) (Nat.zero_le _) fun _ => (l p).1.maxRetries

/-- The retry step moves the record to ISOLATED or HOLDOFF (R114). -/
theorem State.PortsLaw.retryStep {s : State} (l : s.PortsLaw) (p : PortId)
    (h : (s.port p).switch.state ≠ .isolated) : (s.retryStep p).PortsLaw := by
  have ht := (l p).1.trying h
  unfold State.retryStep
  by_cases hg : (s.port p).params.maxRetries ≤ (s.port p).switch.retries + 1
  · refine l.opening p _ ?_ ?_ ?_ ?_ ?_ ?_ <;> simp [SwitchRec.retry, hg, SwitchRec.isolate, SwitchState.closed]
    omega
  · refine l.opening p _ ?_ ?_ ?_ ?_ ?_ ?_ <;> simp [SwitchRec.retry, hg, SwitchRec.holdOff, SwitchState.closed] <;>
      omega

/-- A filled slot stands in PROBING alone. -/
theorem Port.Law.settled {r : Port} (l : r.Law) : Port.Law { r with switch := r.switch.settled } := by
  unfold SwitchRec.settled
  split
  · next h =>
    exact ⟨⟨l.1.dark, l.1.sense, fun e => absurd h.1 e, fun e => absurd h.1 e, l.1.hold, l.1.maxRetries, l.1.retries,
      l.1.trying, l.1.joined⟩, l.2.congr rfl rfl⟩
  · exact l

theorem State.PortsLaw.fillSlots {s : State} (l : s.PortsLaw) : s.fillSlots.PortsLaw := by
  intro p
  rw [State.port_fillSlots]
  exact (l p).settled

/-! ## Reactions and occurrences -/

theorem State.PortsLaw.performAction {s : State} (l : s.PortsLaw) (i : EntryId) (c : ReactionConfig)
    (trigger : Option PortId) : (s.performAction i c trigger).1.PortsLaw := by
  unfold State.performAction
  split
  · split
    · exact (State.latch_keeps (s.isolatePort _ .reaction) (.reacted _)).portsLaw (l.isolatePort _ _)
    · exact l
  · split
    · exact l.joinPort _
    · exact l
  · split
    · split
      · exact (s.queueSpot_keeps _).portsLaw l
      · exact l
    · exact l
  · split
    · exact (s.latch_keeps (.note _ i)).portsLaw l
    · exact l
  · split
    · exact s.holdSurvey_keeps.portsLaw l
    · exact l
  · split
    · exact s.resumeSurvey_keeps.portsLaw l
    · exact l

theorem State.PortsLaw.fire {s : State} (l : s.PortsLaw) (i : EntryId) (e : ReactionEntry) (trigger : Option PortId) :
    (s.fire i e trigger).PortsLaw := by
  have h1 : ((s.performAction i e.config trigger).1.recordFiring i e (s.performAction i e.config trigger).2).PortsLaw :=
    (l.performAction i e.config trigger).congr rfl
  unfold State.fire State.reportOutcome
  simp only
  split
  · exact h1
  · exact h1
  · exact (State.latch_keeps _ _).portsLaw h1
  · exact (State.latch_keeps _ _).portsLaw h1

theorem State.PortsLaw.offerAll {s : State} (l : s.PortsLaw) (o : Occurrence) (is : List EntryId) :
    (is.foldl (State.offerTo o) s).PortsLaw := by
  induction is generalizing s with
  | nil => exact l
  | cons i is ih =>
    rw [List.foldl_cons]
    refine ih ?_
    unfold State.offerTo
    split
    · exact l
    · split
      · exact l.fire _ _ _
      · exact l

theorem State.PortsLaw.raise {s : State} (l : s.PortsLaw) (o : Occurrence) : (s.raise o).PortsLaw := by
  unfold State.raise State.react
  exact State.PortsLaw.offerAll ((s.latch_keeps o).portsLaw l) o _

theorem State.PortsLaw.raiseAll {s : State} (l : s.PortsLaw) (os : List Occurrence) : (s.raiseAll os).PortsLaw := by
  unfold State.raiseAll
  induction os generalizing s with
  | nil => exact l
  | cons o os ih =>
    rw [List.foldl_cons]
    exact ih (l.raise o)

/-! ## Completions -/

theorem State.PortsLaw.failProbe {s : State} (l : s.PortsLaw) (p : PortId) (tripped : Bool)
    (h : (s.port p).switch.state ≠ .isolated) : (s.failProbe p tripped).PortsLaw := by
  unfold State.failProbe
  exact (l.retryStep p h).raiseAll _

theorem State.PortsLaw.overcurrent {s : State} (l : s.PortsLaw) (p : PortId) : (s.overcurrent p).PortsLaw := by
  unfold State.overcurrent
  split
  · exact l
  · exact l
  · exact (l.tripJoined p).raise _
  · next h => exact l.failProbe p _ (by rw [h]; decide)

theorem State.PortsLaw.judgeProbe {s : State} (l : s.PortsLaw) (p : PortId) (value : Nat) :
    (s.judgeProbe p value).PortsLaw := by
  unfold State.judgeProbe
  split
  · next hs =>
    have l1 : (s.modSwitch p fun _ w => { w with slot := .empty, lastProbe := some value }).PortsLaw :=
      l.modPort p _ ⟨⟨(l p).1.dark, (l p).1.sense, fun _ => rfl, (l p).1.settle, (l p).1.hold, (l p).1.maxRetries,
        (l p).1.retries, (l p).1.trying, (l p).1.joined⟩, (l p).2.congr rfl rfl⟩
    have hs1 : ((s.modSwitch p fun _ w => { w with slot := .empty, lastProbe := some value }).port p).switch.state =
        .probing := by
      simpa [State.modSwitch] using hs
    generalize (s.modSwitch p fun _ w => { w with slot := .empty, lastProbe := some value }) = s1 at l1 hs1
    unfold State.probeVerdict
    split
    · refine l1.modPort p _ ⟨⟨?_, ?_, fun _ => rfl, fun _ => rfl, fun _ => ?_, (l1 p).1.maxRetries, Nat.zero_le _,
        fun _ => (l1 p).1.maxRetries, fun _ => rfl⟩, (l1 p).2.congr rfl rfl⟩
      · intro h; simp [SwitchRec.pass, SwitchState.closed] at h
      · intro h; simp [SwitchRec.pass, SwitchState.closed] at h
      · exact (l1 p).1.hold (by rw [hs1]; decide)
    · exact l1.failProbe p _ (by rw [hs1]; decide)
  · exact l

theorem State.PortsLaw.deliverOk {s : State} (l : s.PortsLaw) (j : Job) : (s.deliverOk j).PortsLaw := by
  unfold State.deliverOk
  simp only
  split
  · exact l.judgeProbe _ _
  · exact ((s.handleResult_keeps _).portsLaw l).raiseAll _
  · exact ((s.handleResult_keeps _).portsLaw l).raiseAll _

theorem State.PortsLaw.completeOk {s : State} (l : s.PortsLaw) (j : Job) : (s.completeOk j).PortsLaw :=
  (State.wakeEngine_keeps _).portsLaw <| (State.setHandingOver_keeps _ false).portsLaw <|
    State.PortsLaw.deliverOk ((State.setHandingOver_keeps _ true).portsLaw ((s.setActive_keeps none).portsLaw l)) j

theorem State.PortsLaw.afterSample {s : State} (l : s.PortsLaw) (j onward : Job) : (s.afterSample j onward).PortsLaw := by
  unfold State.afterSample
  split
  · exact l.completeOk j
  · exact (s.setActive_keeps _).portsLaw l

theorem State.PortsLaw.symbolBoundary {s : State} (l : s.PortsLaw) (p : PortId) (c : SymClass) (code : Code) :
    (s.symbolBoundary p c code).PortsLaw := by
  refine (State.wakeEngine_keeps _).portsLaw ((State.symbolStart_keeps _ p).portsLaw ?_)
  unfold State.judgeSample
  split
  · exact l
  · split
    · split
      · exact l
      · exact l
      · split
        · exact l.afterSample _ _
        · exact (s.setActive_keeps _).portsLaw l
    · exact l

/-! ## The classifier's own inputs -/

/-- An entry into a condition keeps the classifier's law. -/
theorem CondRec.enter_fields (now : Word32) (c : Condition) (cause : EntryCause) (r : CondRec) :
    (r.enter now c cause).condition = c ∧ (r.enter now c cause).quietGate = false ∧ (r.enter now c cause).dwell = 0 ∧
      (r.enter now c cause).noiseLevel = (if c = .dark then 0 else r.noiseLevel) ∧
      (r.enter now c cause).drain = (if c = .dark then none else r.drain) ∧
      (r.enter now c cause).quietRun = (if c = .dark then 0 else r.quietRun) ∧
      (r.enter now c cause).activeRun = (if c = .dark then 0 else r.activeRun) := by
  cases c <;> simp [CondRec.enter, CondRec.darken]

/-- The classifier's part of the law, for a record and its parameters. -/
structure CondRec.Law (q : Params) (r : CondRec) : Prop where
  ceiling : r.noiseLevel ≤ q.noiseCeiling
  drain : r.drain.isSome = true ↔ 0 < r.noiseLevel
  dark : r.condition = .dark → r.noiseLevel = 0
  gate : r.quietGate = true → r.condition = .quiet
  quietRun : r.quietRun ≤ 24
  activeRun : r.activeRun ≤ 65535
  dwell : r.dwell ≤ 65535

theorem Port.ClassifierLaw.cond {r : Port} (l : r.ClassifierLaw) : r.cond.Law r.params :=
  ⟨l.ceiling, l.drain, l.dark, l.gate, l.quietRun, l.activeRun, l.dwell⟩

theorem CondRec.Law.enter {q : Params} {r : CondRec} (l : r.Law q) (now : Word32) (c : Condition) (cause : EntryCause) :
    (r.enter now c cause).Law q := by
  obtain ⟨h1, h2, h3, h4, h5, h6, h7⟩ := CondRec.enter_fields now c cause r
  refine ⟨?_, ?_, ?_, ?_, ?_, ?_, ?_⟩
  · rw [h4]; split
    · exact Nat.zero_le _
    · exact l.ceiling
  · rw [h4, h5]; split
    · simp
    · exact l.drain
  · rw [h1, h4]; exact fun h => by simp [h]
  · rw [h2]; exact fun h => by cases h
  · rw [h6]; split
    · exact Nat.zero_le _
    · exact l.quietRun
  · rw [h7]; split
    · exact Nat.zero_le _
    · exact l.activeRun
  · rw [h3]; exact Nat.zero_le _

theorem CondRec.Law.enterIf {q : Params} {r : CondRec} (l : r.Law q) (now : Word32) (e : Option Condition) :
    (r.enterIf now e).Law q := by
  unfold CondRec.enterIf
  split
  · exact l
  · exact l.enter _ _ _

theorem addUpTo_le (limit n : Nat) (h : n ≤ limit) : addUpTo limit n ≤ limit := by
  unfold addUpTo; split <;> omega

theorem CondRec.Law.takeClass {q : Params} {r : CondRec} (l : r.Law q) (now : Word32) (c : SymClass) :
    (r.takeClass now q c).1.Law q := by
  unfold CondRec.takeClass
  split
  · exact l
  · next hd =>
    simp only
    have l1 : (r.updateRuns c).Law q := by
      unfold CondRec.updateRuns
      refine ⟨l.ceiling, l.drain, l.dark, l.gate, ?_, ?_, l.dwell⟩
      · by_cases h : c = .quiet <;> simp [h, addUpTo_le 24 _ l.quietRun, quietSymbols]
      · show (if _ then _ else _) ≤ 65535
        generalize (if c = .quiet then addUpTo quietSymbols r.quietRun else 0) = n
        by_cases h : n = quietSymbols <;> simp [h, addUpTo_le 65535 _ l.activeRun]
    have hd1 : (r.updateRuns c).condition ≠ .dark := hd
    generalize r.updateRuns c = r1 at l1 hd1
    have l2 : (r1.updateNoise q c).Law q := by
      unfold CondRec.updateNoise
      split
      · next h =>
        refine ⟨?_, ?_, fun e => absurd e hd1, l1.gate, l1.quietRun, l1.activeRun, l1.dwell⟩
        · exact h.2
        · simp only
          by_cases h0 : r1.noiseLevel = 0
          · simp [h0]
          · have := l1.drain.mpr (Nat.pos_of_ne_zero h0)
            simp [h0, this]
      · exact l1
    generalize r1.updateNoise q c = r2 at l2
    have l3 := l2.enterIf now (classTransition q.noiseCeiling (r2.criteria q c) r2)
    generalize r2.enterIf now (classTransition q.noiseCeiling (r2.criteria q c) r2) = r3 at l3
    refine ⟨l3.ceiling, l3.drain, l3.dark, ?_, l3.quietRun, l3.activeRun, l3.dwell⟩
    intro h
    simp only [CondRec.judgeGate, decide_eq_true_eq] at h
    exact h.1

theorem CondRec.Law.spendBudget {q : Params} {r : CondRec} (l : r.Law q) : (r.spendBudget q).1.Law q := by
  unfold CondRec.spendBudget
  split
  · exact l
  · split <;> exact ⟨l.ceiling, l.drain, l.dark, l.gate, l.quietRun, l.activeRun, l.dwell⟩

theorem CondRec.Law.takeIndication {q : Params} {r : CondRec} (l : r.Law q) (now : Word32) (i : Indication) :
    (r.takeIndication now q i).1.Law q := by
  unfold CondRec.takeIndication
  split
  · exact l
  · split
    · exact l.enter now .traffic .observed
    · exact l
  · exact l
  · exact l.spendBudget
  · exact l.spendBudget
  · exact l.spendBudget

end Sys2Proof.Machine
end

