-- ==== Sys2Proof/Laws/Requests.lean ====
section
/-! SUPPORT. How a request runs (R160 to R162, R181, R182): an executed request is its handler's answer on the state that
the frame's arrival leaves. -/
namespace Sys2Proof.Machine

/-- A frame's arrival touches the receiver and the watchdog alone. -/
theorem State.frameArrives_eq (s : State) :
    s.frameArrives = { s with
      link := { s.link with rx := .hunting, session := s.link.session.frameArrives } } := rfl

theorem Session.frameArrives_state (v : Session) : v.frameArrives.state = v.state := by
  unfold Session.frameArrives; split <;> rfl

/-- No reply is cached for a tag of 0, nor for a tag and KIND that no entry holds (R162). -/
theorem Link.cached_eq_none {l : Link} {kind tag : Byte}
    (h : tag = 0 ∨ ∀ c ∈ l.cache, ¬(c.tag = tag ∧ c.kind = kind)) : l.cached kind tag = none := by
  unfold Link.cached
  split
  · rfl
  · next h0 =>
    rw [List.find?_eq_none.mpr]
    · rfl
    · intro c hc
      simpa using h.resolve_left h0 c hc

/-- An executed request: its handler's answer becomes its reply. -/
theorem State.request_of_executes {s : State} {kind tag : Byte} (payload : List Byte) (h : s.Executes kind tag) :
    s.request kind tag payload =
      .next ((answerRequest kind tag payload s.frameArrives).1.reply kind tag
        (answerRequest kind tag payload s.frameArrives).2).arbitrate := by
  obtain ⟨h1, h2, h3⟩ := h
  unfold State.request State.takeRequest State.execute
  have hp : s.frameArrives.link.resetPending = false := h1
  have hr : s.frameArrives.link.replies.length < replyPlaces := h2
  have hc : s.frameArrives.link.cached kind tag = none := Link.cached_eq_none h3
  simp only [hp, hc, hr, State.answered, if_true, Bool.false_eq_true, if_false]

/-- An executed request whose handler's answer is known. -/
theorem exec_of_executes {c : Instr} {s t : State} {kind tag : Byte} {payload : List Byte} {answer : Answer}
    (hc : exec c s = s.request kind tag payload) (h : s.Executes kind tag)
    (ha : answerRequest kind tag payload s.frameArrives = (t, answer)) :
    exec c s = .next (t.reply kind tag answer).arbitrate := by
  rw [hc, State.request_of_executes _ h, ha]

/-- A request whose checks all pass is carried out whole. -/
theorem validated_of_passes {checks : List Check} (s : State) (c : State × List Byte)
    (h : firstFailure checks = none) : validated checks s c = (c.1, .ok c.2) := by
  unfold validated; rw [h]

/-- A request that a check refuses changes nothing. -/
theorem validated_of_fails {checks : List Check} (s : State) (c : State × List Byte) {a : Answer}
    (h : firstFailure checks = some a) : validated checks s c = (s, a) := by
  unfold validated; rw [h]

/-- Where all checks pass, each does. -/
theorem firstFailure_cons_eq_none {c : Check} {cs : List Check} (h : firstFailure (c :: cs) = none) :
    c.passes = true ∧ firstFailure cs = none := by
  unfold firstFailure at h
  split at h
  · next hp => exact ⟨hp, h⟩
  · cases h

/-! ## Ports as bytes -/

theorem toNat_portByte (p : PortId) : (portByte p).toNat = p.val := by
  simp only [portByte, BitVec.toNat_ofNat]; omega

theorem portAt_portByte (p : PortId) (rest : List Byte) : portAt (portByte p :: rest) 0 = p := by
  have h : u8 (portByte p :: rest) 0 = p.val := toNat_portByte p
  unfold portAt
  rw [h]
  ext
  simp [Fin.ofNat]

/-- A set has no bit at or above its width (10.2). -/
theorem maskOf_lt (width : Nat) (f : Nat → Bool) : maskOf width f < 2 ^ width := by
  unfold maskOf
  induction width with
  | zero => simp
  | succ n ih =>
    rw [List.range_succ, List.foldl_append]
    simp only [List.foldl_cons, List.foldl_nil]
    rw [Nat.pow_succ]
    split <;> omega

end Sys2Proof.Machine
end

