-- ==== Sys2Proof/Laws/Switch.lean ====
section
/-! SUPPORT. Openings and closings of a port's switch as one update of its records (R6, R23, R28, R29, R107), and the
taking of one or two occurrences. -/
namespace Sys2Proof.Machine

theorem State.modPort_modPort (s : State) (p : PortId) (f g : Port → Port) :
    (s.modPort p f).modPort p g = s.modPort p (g ∘ f) := by
  unfold State.modPort
  simp

theorem State.modPort_eq_setPort (s : State) (p : PortId) (f : Port → Port) :
    s.modPort p f = s.setPort p (f (s.port p)) := rfl

/-- The switch record changes to an open state, and the opening follows (R107). -/
theorem State.openSwitch_modSwitch (s : State) (p : PortId) (f : Params → SwitchRec → SwitchRec) :
    (s.modSwitch p f).openSwitch p =
      (s.setPort p ((s.port p).opened s.timebase (f (s.port p).params (s.port p).switch))).engineOpening p := by
  unfold State.openSwitch State.forceDark State.modSwitch
  rw [State.modPort_modPort]
  rfl

/-- The switch record changes to PROBING, and the closing follows (R107). -/
theorem State.closeSwitch_modSwitch (s : State) (p : PortId) (f : Params → SwitchRec → SwitchRec) :
    (s.modSwitch p f).closeSwitch p =
      s.setPort p ((s.port p).joining s.timebase (f (s.port p).params (s.port p).switch)) := by
  unfold State.closeSwitch State.modSwitch
  rw [State.modPort_modPort]
  rfl

theorem State.raiseAll_nil (s : State) : s.raiseAll [] = s := rfl

theorem State.raiseAll_one (s : State) (o : Occurrence) : s.raiseAll [o] = s.raise o := by
  unfold State.raiseAll; rw [List.foldl_cons, List.foldl_nil]

theorem State.raiseAll_two (s : State) (o o' : Occurrence) : s.raiseAll [o, o'] = (s.raise o).raise o' := by
  unfold State.raiseAll; rw [List.foldl_cons, List.foldl_cons, List.foldl_nil]

end Sys2Proof.Machine
end

