-- ==== Sys2Proof/WellFormed.lean ====
section
/-! DEFINITION. Which commands can arrive at all: a transition changes the level within a symbol time,
and a frame carries at most 238 payload bytes and, as an unknown kind, a KIND that is neither a request nor ACK (R160,
R177).
The values inside a payload are not checked here: the part checks them itself and refuses (R182). -/
namespace Sys2Proof

/-- The request kinds of section 10.3. -/
def requestKinds : List Byte :=
  [0x01, 0x02, 0x03, 0x10, 0x11, 0x12, 0x13, 0x14, 0x20, 0x21, 0x22, 0x23, 0x24, 0x25, 0x26, 0x27, 0x30, 0x31, 0x38,
   0x39, 0x3A, 0x40, 0x41, 0x42]

/-- LEN is at most 240, so a payload holds at most 238 bytes (R158, 10.1). -/
def payloadFits (payload : List Byte) : Bool := decide (payload.length ≤ 238)

/-- The check of a command as the outside world can send it. -/
def wellFormed : Instr → Bool
  | .lineTransition _ source target offset => decide (source ≠ target) && decide (offset ≤ 50)
  | .unknownKind kind _ payload => !requestKinds.contains kind && decide (kind ≠ 0x70) && payloadFits payload
  | .hello _ payload => payloadFits payload
  | .status _ payload => payloadFits payload
  | .reset _ payload => payloadFits payload
  | .portSet _ payload => payloadFits payload
  | .portGet _ payload => payloadFits payload
  | .portJoin _ payload => payloadFits payload
  | .portIsolate _ payload => payloadFits payload
  | .counts _ payload => payloadFits payload
  | .surveyPut _ payload => payloadFits payload
  | .surveyGet _ payload => payloadFits payload
  | .surveyRun _ payload => payloadFits payload
  | .surveyHold _ payload => payloadFits payload
  | .surveyResume _ payload => payloadFits payload
  | .surveyStop _ payload => payloadFits payload
  | .spot _ payload => payloadFits payload
  | .spotCancel _ payload => payloadFits payload
  | .monitorSet _ payload => payloadFits payload
  | .monitorGet _ payload => payloadFits payload
  | .reactionSet _ payload => payloadFits payload
  | .reactionGet _ payload => payloadFits payload
  | .reactionArm _ payload => payloadFits payload
  | .summaryGet _ payload => payloadFits payload
  | .summaryClear _ payload => payloadFits payload
  | .notifyMask _ payload => payloadFits payload
  | .ack _ payload => payloadFits payload
  | .fullReset _ => true
  | .softReset => true
  | .symbolDelivery _ _ _ _ => true
  | .powerSenseChange _ _ => true
  | .senseTimerExpiry _ => true
  | .drainExpiry _ => true
  | .budgetWindowExpiry _ => true
  | .dwellStep _ => true
  | .overcurrentTrip _ => true
  | .holdTimerExpiry _ => true
  | .settleTimerExpiry _ => true
  | .jobStart => true
  | .engineSettleEnd => true
  | .sampleEnd _ => true
  | .gateTimeout => true
  | .passFloorExpiry => true
  | .paceTick => true
  | .holdbackExpiry _ => true
  | .gapTimerExpiry => true
  | .frameDiscard => true
  | .frameSent => true
  | .ackTimerExpiry => true
  | .linkWatchdogExpiry => true
  | .byteReceived _ _ => true

end Sys2Proof
end

