-- ==== Sys2Proof/Tests/Slice0.lean ====
section
/-! SUPPORT. Tests: the ill-formed commands that `wellFormed` refuses, the check's reference values, single steps on small
states, and for every statement with hypotheses a state and operands that meet them, clause by clause. -/
namespace Sys2Proof.Tests

open Sys2Proof Sys2Proof.Machine

-- One test after another: each kernel evaluation run beside the others would need a stack of its own.
set_option Elab.async false

/-! ## Small states -/

/-- All eight switches closed (PROBING), power-sense GOOD, the lines flat. -/
def joined : State :=
  State.atReset { joinMode := true, rate1 := false, rate0 := false } (Vector.replicate 8 true) (Vector.replicate 8 .flat)

/-- `joined` with port 7 changed. -/
def port7 (f : Port → Port) : State := joined.modPort 7 f

/-- `joined` with the condition record of port 7 changed. -/
def cond7 (f : CondRec → CondRec) : State := port7 fun r => { r with cond := f r.cond }

/-- `joined` with the switch record of port 7 changed. -/
def switch7 (f : SwitchRec → SwitchRec) : State := port7 fun r => { r with switch := f r.switch }

/-- A job of slot 5 on port 7. -/
def job (q : Quantity) (phase : Phase) (sample : Sample) : Job :=
  { freshJob (.survey 5 1) 7 q 2 2 10 .reported true with phase := phase, sample := sample }

/-- A spot job on port 7. -/
def spot (q : Quantity) (phase : Phase) (sample : Sample) : Job := { job q phase sample with origin := .spot 9 }

/-- `joined` with an active job. -/
def active (j : Job) : State := { joined with engine := { Engine.idle with active := some j } }

/-- `joined` with a survey that holds one entry in slot 47 and runs. -/
def surveying (f : Survey → Survey) : State :=
  { joined with survey := f { Survey.atReset with
      slots := Survey.atReset.slots.set 47
        (some { port := 7, quantity := .sigamp, e := 0, shift := 0, gateTimeout := 1, reported := true, enabled := true })
      state := .running, inPass := true, passNumber := 1 } }

/-- `joined` with a changed session and result queue. -/
def session (f : Session → Session) (queue : List ResultRec) (events : List EventRec) : State :=
  { joined with
    results := { joined.results with queue := queue }
    summary := { joined.summary with events := events }
    link := { joined.link with session := f { Session.atReset with state := .opened, window := 4, nextSeq := 1 } } }

/-- A result record. -/
def record (send : SendState) : ResultRec :=
  { id := 0, origin := .survey 5 1, port := 7, quantity := .vseg, status := .ok, samples := 1, value := some 7
    time := 0, lost := none, verdicts := [], send := send }

/-- An event record of port 7. -/
def event (send : SendState) : EventRec :=
  { source := 7, flags := 1, newest := 1, notes := [], created := 0, send := send }

/-- A reaction entry on every TRIP. -/
def entry : ReactionEntry :=
  { ReactionEntry.fresh
      { kind := .trip, condition := 0, threshold := 0, monitor := 0, port := 0xFF, action := .notify, spotQuantity := 0
        spotE := 0, spotShift := 0, spotGateTimeout := 0, target := 0xFE, repeats := true, holdback := 0 } with
    armed := true }

/-- `joined` with that entry in place 23. -/
def reacting (f : ReactionEntry → ReactionEntry) : State :=
  { joined with reactions := joined.reactions.set 23 (some (f entry)) }

/-- The next state of an outcome. -/
def lands (o : Host.Outcome State Fault Refusal) : Option State :=
  match o with
  | .next t => some t
  | .fault _ => none
  | .refused _ => none

/-- What a command answers, as a state. -/
def after (c : Instr) (s : State) : State := (lands (exec c s)).getD s

/-! ## Ill-formed commands -/

theorem test_wellFormed_refuses_transition_past_symbol :
    wellFormed (.lineTransition 0 .high .low 51) = false ∧ wellFormed (.lineTransition 0 .high .low 50) = true := by
  decide

theorem test_wellFormed_refuses_transition_without_change :
    wellFormed (.lineTransition 0 .low .low 0) = false := by decide

theorem test_wellFormed_refuses_known_kind_as_unknown :
    wellFormed (.unknownKind 0x42 1 []) = false ∧ wellFormed (.unknownKind 0x70 1 []) = false ∧
      wellFormed (.unknownKind 0x43 1 []) = true := by decide

theorem test_wellFormed_refuses_long_payload :
    ∀ c ∈ [Instr.unknownKind 0x43 1, .hello 1, .status 1, .reset 1, .portSet 1, .portGet 1, .portJoin 1, .portIsolate 1,
      .counts 1, .surveyPut 1, .surveyGet 1, .surveyRun 1, .surveyHold 1, .surveyResume 1, .surveyStop 1, .spot 1,
      .spotCancel 1, .monitorSet 1, .monitorGet 1, .reactionSet 1, .reactionGet 1, .reactionArm 1, .summaryGet 1,
      .summaryClear 1, .notifyMask 1, .ack 1],
      wellFormed (c (List.replicate 239 0)) = false ∧ wellFormed (c (List.replicate 238 0)) = true := by
  intro c hc
  fin_cases hc <;> decide +kernel

/-! ## The frame check (R7) -/

theorem test_frameCheck_reference_values :
    frameCheck [0x00] = 0xE1F0 ∧
      frameCheck [0x31, 0x32, 0x33, 0x34, 0x35, 0x36, 0x37, 0x38, 0x39] = 0x29B1 := by decide +kernel

/-! ## Single steps -/

theorem test_full_reset_under_low_joinMode :
    (after (.fullReset { joinMode := false, rate1 := true, rate0 := false }) joined).closed 7 = false := by
  decide +kernel

theorem test_trip_in_joined_opens_and_latches :
    let t := after (.overcurrentTrip 7) (switch7 fun w => { w with state := .joined })
    (t.port 7).switch.state = .holdoff ∧ (t.port 7).switch.hold = some (500 * ticksPerMs) ∧
      (t.port 7).cond.condition = .dark ∧ t.summary.flags[(7 : SourceId)][(7 : FlagId)] = some 1 := by decide +kernel

theorem test_probe_of_3001_counts_fails_once :
    let t := after (.sampleEnd 3001)
      (active { probeJob 7 with phase := .sampling, sample := .timed 40, samplesDone := 15, sum := 15 * 3001 })
    (t.port 7).switch.state = .holdoff ∧ (t.port 7).switch.retries = 1 ∧
      (t.port 7).switch.lastProbe = some 3001 := by decide +kernel

theorem test_quiet_after_24_symbols :
    ((after (.symbolDelivery 7 .high .low 0) (cond7 fun r => { r with quietRun := 23 })).port 7).cond.condition = .quiet := by
  decide +kernel

/-- Port 7 late in a symbol that was high and then low for most of each half. -/
def lateInOne : State :=
  port7 fun r =>
    { r with
      line := .low
      tap := { r.tap with
        timing := .locked, position := 45, first := { high := 20, low := 5, flat := 0 }
        second := { high := 8, low := 12, flat := 0 } } }

theorem test_majorities_make_a_one :
    let t := after (.symbolDelivery 7 .flat .flat 0) lateInOne
    (t.port 7).tap.recog.preambleCount = 1 ∧ (t.port 7).tap.timing = .locked := by decide +kernel

theorem test_transition_keeps_the_time_before_it :
    let t := after (.lineTransition 7 .low .high 15) lateInOne
    let u := after (.lineTransition 7 .flat .high 15) (port7 id)
    (t.port 7).line = .high ∧ (t.port 7).tap.midHalf = false ∧ (t.port 7).tap.position = 50 ∧
      (u.port 7).tap.timing = .locked ∧ (u.port 7).tap.position = 0 ∧ (u.port 7).tap.first = .fresh := by decide +kernel

theorem test_settle_expiries_of_one_moment_start_port_0 :
    (after (.settleTimerExpiry 3) joined).engine.mux = some (0, .iseg) ∧
      ((after (.settleTimerExpiry 3) joined).port 7).switch.slot = .waiting := by decide +kernel

theorem test_rate_limit_of_passes :
    (after .jobStart (surveying fun v => { v with cursor := 48, floorLeft := 1 })).survey.inPass = false ∧
      (after .jobStart (surveying fun v => { v with cursor := 48 })).survey.passNumber = 2 := by decide +kernel

theorem test_reaction_notifies :
    (after (.overcurrentTrip 7) { switch7 fun w => { w with state := .joined } with
      reactions := (reacting id).reactions }).summary.flags[(7 : SourceId)][(10 : FlagId)] = some 2 := by decide +kernel

theorem test_counts_reply :
    (after (.counts 9 [7, 0]) joined).link.replies = [[0x80, 9, 0x14, 7] ++ List.replicate 20 0] := by decide +kernel

theorem test_hello_reply :
    (after (.hello 1 [4, 100, 3, 0]) joined).link.replies =
      [[0x80, 1, 0x01, 0xB5, 0x08, 0x2E, 0x02, 0x08, 4, 100, 3, 0]] := by decide +kernel

theorem test_status_length : joined.statusBytes.length = 132 := by decide +kernel

theorem test_result_report_goes_out :
    (after .frameSent { session id [record .waiting] [] with link := { (session id [] []).link with
        line := some { report := false, bytes := [] }, replies := [[]] } }).results.queue = [record (.sent 1)] := by
  decide +kernel

theorem test_frame_received_whole :
    lands (joined.receiveBytes (frameBytes [0x14, 9, 7, 0])) = lands (exec (.counts 9 [7, 0]) joined) := by
  decide +kernel

theorem test_empty_queue_lets_time_pass :
    (lands (step { joined with subMs := 1999 })).map State.timebase = some 1 := by decide +kernel

/-! ## States and operands that meet the hypotheses of the statements

One theorem for each statement that has hypotheses, with one conjunct for each clause, at boundary values. -/

/-! ### The block -/

theorem test_meets_TimePasses :
    joined.engine.active = none ∧ (active (job .screen .settling .idle)).engine.active = some (job .screen .settling .idle) ∧
    ((job .vseg .sampling (.timed 40)).phase = .sampling ∧ (job .vseg .sampling (.timed 40)).sample = .timed 40) ∧
    ((job .noise .sampling (.symbol true)).phase = .sampling ∧
      ∀ left, (job .noise .sampling (.symbol true)).sample ≠ .timed left) ∧
    (job .noise .gated .idle).phase = .gated := by
  refine ⟨rfl, rfl, ⟨rfl, rfl⟩, ⟨rfl, fun _ h => ?_⟩, rfl⟩
  cases h

theorem test_meets_StepRunsFrontCommand :
    { joined with pending := [.jobStart, .softReset] }.pending = Instr.jobStart :: [.softReset] ∧
      joined.pending = [] := by decide +kernel

/-- `joined` with the RESET reply on the line and a reset pending. -/
def resetting : State :=
  { joined with link := { joined.link with
      resetPending := true, line := some { report := false, bytes := [] }, replies := [okReply 0x03 7 []]
      hold := [{ kind := 0x02, tag := 1, payload := [] }] } }

theorem test_meets_SoftResetValues :
    resetting.link.resetPending = true ∧ resetting.link.line = some { report := false, bytes := [] } ∧
      resetting.link.replies = okReply 0x03 7 [] :: [] := by decide +kernel

/-! ### Chapter 1 -/

theorem test_meets_FramesAreCheckedAndJudged :
    ({ Receiver.hunting with check := [0xE1, 0xF0] }.check = [(0xE1 : Byte), 0xF0]) ∧
    (4 ≤ 4 ∧ [(0 : Byte)] ≠ [] ∧ [(0 : Byte)].length + 2 ≤ 3) ∧
    (4 ≤ 4 ∧ [(0 : Byte), 1].length ≤ 2 ∧ [(0 : Byte), 1].length ≤ 2) ∧
    (4 ≤ 4 ∧ (List.replicate 17 (0 : Byte)).length = 16 + 1) := by decide +kernel

/-- A recogniser state. -/
def recog (state : RecogState) (preambleCount delimPos bitPos : Nat) : Recogniser :=
  { Recogniser.hunting with state := state, preambleCount := preambleCount, delimPos := delimPos, bitPos := bitPos }

theorem test_meets_RecogniserSteps :
    ((recog .hunt 0 0 0).state = .hunt ∧ SymClass.zero ≠ .one) ∧
    ((recog .hunt 0 0 0).state = .hunt ∧ SymClass.one = .one) ∧
    ((recog .preamble 4 0 0).state = .preamble ∧ (recog .preamble 4 0 0).preambleCount ≤ 4 ∧ SymClass.one = .one) ∧
    ((recog .preamble 4 0 0).state = .preamble ∧ SymClass.ml = .ml ∧ (recog .preamble 4 0 0).preambleCount = 4) ∧
    ((recog .preamble 3 0 0).state = .preamble ∧ SymClass.ml = .ml ∧ (recog .preamble 3 0 0).preambleCount ≠ 4) ∧
    ((recog .preamble 4 0 0).state = .preamble ∧ SymClass.mh ≠ .one ∧ SymClass.mh ≠ .ml) ∧
    ((recog .start 4 6 0).state = .start ∧ startDelimiter[(recog .start 4 6 0).delimPos]? = some .one ∧
      (recog .start 4 6 0).delimPos < 7) ∧
    ((recog .start 4 7 0).state = .start ∧ startDelimiter[(recog .start 4 7 0).delimPos]? ≠ some .junk ∧
      (SymClass.junk = .junk ∨ SymClass.junk = .quiet)) ∧
    ((recog .start 4 7 0).state = .start ∧ startDelimiter[(recog .start 4 7 0).delimPos]? ≠ some .one ∧
      SymClass.one ≠ .junk ∧ SymClass.one ≠ .quiet) ∧
    ((recog .start 4 7 0).state = .start ∧ (recog .start 4 7 0).delimPos = 7 ∧ SymClass.zero = .zero) ∧
    ((recog .body 0 8 6).state = .body ∧ (recog .body 0 8 6).bitPos < 7) ∧
    (let r : Recogniser := { recog .body 0 8 7 with byteCount := 15, held := [1] }
     r.bitPos = 7 ∧ r.byteCount + 1 ≤ 16 ∧ r.held.length < 2 ∧ 15 < r.byteCount + 1) ∧
    (let r : Recogniser := { recog .body 0 8 7 with byteCount := 15, held := [1, 2] }
     r.bitPos = 7 ∧ r.byteCount + 1 ≤ 16 ∧ r.held = [1, 2]) ∧
    (let r : Recogniser := { recog .ending 0 7 0 with byteCount := 3, held := [1, 2] }
     r.state = .ending ∧ r.delimPos = 7 ∧ 3 ≤ r.byteCount ∧ r.held = [1, 2] ∧ (recog .ending 0 7 0).byteCount < 3) ∧
    ((recog .body 0 8 0).state = .body ∧ SymClass.ml = .ml ∧ (recog .body 0 8 0).bitPos = 0) ∧
    ((recog .body 0 8 7).state = .body ∧ SymClass.ml = .ml ∧ (recog .body 0 8 7).bitPos ≠ 0) ∧
    ((recog .body 0 8 7).state = .body ∧ (SymClass.mh = .mh ∨ SymClass.mh = .quiet ∨ SymClass.mh = .junk)) ∧
    ((recog .ending 0 6 0).state = .ending ∧ endDelimiter[(recog .ending 0 6 0).delimPos]? = some .zero ∧
      (recog .ending 0 6 0).delimPos < 7) ∧
    ((recog .ending 0 7 0).state = .ending ∧ endDelimiter[(recog .ending 0 7 0).delimPos]? ≠ some .zero) := by
  and_intros <;> decide +kernel

/-- `joined` with the timing and the line of port 7. -/
def timed (timing : Timing) (position : Nat) (line : Level) : State :=
  port7 fun r => { r with line := line, tap := { r.tap with timing := timing, position := position } }

theorem test_meets_LineTransitionTiming :
    ((joined.port 7).line ≠ .high ∧ (State.reset.port 7).line = .flat ∧ State.reset.closed 7 = false) ∧
    ((timed .free 50 .flat).closed 7 = true ∧ ((timed .free 50 .flat).port 7).line ≠ .high ∧ 50 ≤ 50 ∧
      ((timed .free 50 .flat).port 7).tap.position ≤ 50 ∧ ((timed .free 50 .flat).port 7).tap.timing = .free ∧
      (((timed .free 50 .flat).port 7).line = .flat ∨ Level.high ≠ .flat)) ∧
    (((timed .free 0 .high).port 7).tap.timing = .free ∧ ((timed .free 0 .high).port 7).line ≠ .flat) ∧
    ((timed .locked 0 .low).closed 7 = true ∧ ((timed .locked 0 .low).port 7).line ≠ .high ∧
      ((timed .locked 0 .low).port 7).tap.position ≤ 50 ∧
      ((timed .locked 0 .low).port 7).tap.timing = .locked) := by decide +kernel

theorem test_meets_SymbolDeliveryEffect :
    (13 + 12 + 0 < 2 * 13 ∧ 12 + 13 + 0 < 2 * 13 ∧ 12 + 0 + 13 < 2 * 13) ∧
    (let h : HalfCell := { high := 12, low := 12, flat := 0 }
     2 * h.high ≤ h.high + h.low + h.flat ∧ 2 * h.low ≤ h.high + h.low + h.flat ∧
        2 * h.flat ≤ h.high + h.low + h.flat) ∧
    State.reset.closed 7 = false ∧ joined.closed 7 = true := by decide +kernel

/-- `joined` with a cached reply to COUNTS. -/
def cached : State :=
  { joined with link := { joined.link with cache := [{ tag := 255, kind := 0x14, body := [1] }], replies := [[], [], []] } }

theorem test_meets_CountsReadsAndZeroes :
    (joined.Executes 0x14 0 ∧ cached.Executes 0x14 254 ∧ ((1 : Byte) = 0 ∨ (1 : Byte) = 1)) ∧
    (joined.Executes 0x14 255 ∧ (2 : Byte) ≠ 0 ∧ (2 : Byte) ≠ 1) ∧
    (joined.Executes 0x14 255 ∧ 8 ≤ (8 : Byte).toNat) ∧
    (cached.link.resetPending = false ∧ cached.link.cached 0x14 255 = some [1] ∧ cached.link.replies.length < 4) := by
  decide +kernel

/-! ### Chapter 2 -/

/-- A condition record of a closed port. -/
def cond (condition : Condition) (level : Nat) : CondRec :=
  { CondRec.atReset true true with condition := condition, noiseLevel := level, quietRun := 24, activeRun := 65535 }

theorem test_meets_ClassifierTakesSymbols :
    (cond .dark 0).condition = .dark ∧
    ((cond .noisy 16).condition ≠ .dark ∧ (cond .noisy 16).quietRun ≤ 24 ∧ (cond .noisy 16).activeRun ≤ 65535 ∧
      (cond .noisy 16).noiseLevel ≤ Params.defaults.noiseCeiling) ∧
    ((cond .noisy 0).condition = .unseen ∨ (cond .noisy 0).condition = .quiet ∨
      ((cond .noisy 0).condition = .noisy ∧ (cond .noisy 0).noiseLevel = 0)) ∧
    ((cond .noisy 1).condition = .traffic ∨ (cond .noisy 1).condition = .jabber ∨ (cond .noisy 1).condition = .dark ∨
      ((cond .noisy 1).condition = .noisy ∧ 0 < (cond .noisy 1).noiseLevel)) ∧
    (FrameOutcome.broken ≠ .good ∧
      (Params.defaults.errorBudget = 0 ∨ (cond .dark 0).budgetLeft = 0 ∨ (cond .dark 0).condition = .dark)) ∧
    (0 < Params.defaults.errorBudget ∧ 1 < { cond .quiet 0 with budgetLeft := 2 }.budgetLeft ∧
      (cond .quiet 0).condition ≠ .dark) ∧
    (0 < Params.defaults.errorBudget ∧ { cond .quiet 0 with budgetLeft := 1 }.budgetLeft = 1 ∧
      (cond .quiet 0).condition ≠ .dark) := by decide +kernel

theorem test_meets_PowerSenseIsDebounced :
    (joined.port 7).powerGood = true ∧ (joined.port 7).powerGood ≠ false ∧ (joined.port 7).cond.sense = none ∧
    (((cond7 fun r => { r with sense := some 4000 }).port 7).cond.sense = some 4000 ∧
      ((cond7 fun r => { r with sense := some 4000 }).port 7).cond.condition ≠ .dark) ∧
    (((cond7 fun r => { r with condition := .dark, sense := some 0 }).port 7).cond.sense = some 0 ∧
      ((cond7 fun r => { r with condition := .dark, sense := some 0 }).port 7).cond.condition = .dark) := by
  decide +kernel

theorem test_meets_ClassifierTimersExpire :
    (joined.port 7).cond.drain = none ∧
    ((cond7 fun r => { r with noiseLevel := 1, drain := some 0 }).port 7).cond.drain = some 0 ∧
    ((cond7 fun r => { r with budgetTimer := none }).port 7).cond.budgetTimer = none ∧
    ((cond7 fun r => { r with budgetTimer := some 0 }).port 7).cond.budgetTimer = some 0 ∧
    65535 ≤ ((cond7 fun r => { r with dwell := 65535 }).port 7).cond.dwell ∧
    ((cond7 fun r => { r with dwell := 65534 }).port 7).cond.dwell < 65535 := by decide +kernel

theorem test_meets_PortSetWritesParameters :
    let payload : List Byte := [7] ++ le 2 511 ++ [1, 1] ++ le 2 16 ++ [0, 0, 1, 1] ++ le 2 4095 ++ [15]
    joined.Executes 0x10 1 ∧ payload.length = 14 ∧ byteAt payload 0 = portByte 7 ∧ u16 payload 1 < 512 ∧
      (((switch7 fun w => { w with state := .joined }).port 7).switch.state = .isolated ∨
        ((switch7 fun w => { w with state := .joined }).port 7).switch.state = .joined) ∧
      1 ≤ u8 payload 3 ∧ 1 ≤ u8 payload 4 ∧ (16 ≤ u16 payload 5 ∧ u16 payload 5 ≤ 511) ∧ 1 ≤ u8 payload 9 ∧
      1 ≤ u8 payload 10 ∧ u16 payload 11 ≤ 4095 ∧ 1 ≤ u8 payload 13 ∧ u8 payload 13 ≤ 15 := by decide +kernel

/-! ### Chapter 3 -/

theorem none_has {α : Type} {P : α → Prop} {o : Option α} (h : o = none) : ∀ a, o = some a → P a := by
  simp [h]

theorem no_survey_job {s : State} (ha : s.engine.active = none) (hp : s.engine.parked = none) :
    ∀ j, s.engine.active = some j ∨ s.engine.parked = some j → j.isSurvey = false := by
  simp [ha, hp]

/-- A spot request on port 7. -/
def request (tag : Byte) : SpotRequest :=
  { tag := tag, port := 7, quantity := .screen, e := 8, shift := 8, gateTimeout := 65535 }

/-- The description that `surveying` holds in slot 47. -/
def lastEntry : SurveyEntry :=
  { port := 7, quantity := .sigamp, e := 0, shift := 0, gateTimeout := 1, reported := true, enabled := true }

/-- `joined` with port 7's probe slot WAITING. -/
def probing : State := switch7 fun w => { w with slot := .waiting, settle := none }

theorem test_meets_JobValueRounds :
    1 ≤ 1 ∧ 8 ≤ 8 ∧ (List.replicate 256 (0xFFF : Code)).length = 2 ^ 8 := by decide +kernel

theorem test_meets_JobStartChooses :
    (probing.engine.handingOver = false ∧ probing.engine.active = none ∧ probing.NoPassEnd ∧
      (probing.port 7).switch.slot = .waiting ∧
      (∀ q : PortId, q.val < 7 → (probing.port q).switch.slot ≠ .waiting) ∧ probing.closed 7 = true) ∧
    (let s : State := { joined with
        spots := [request 1], results := { joined.results with queue := List.replicate 15 (record .waiting) } }
     s.engine.handingOver = false ∧ s.engine.active = none ∧ (∀ q : PortId, (s.port q).switch.slot ≠ .waiting) ∧
        s.NoPassEnd ∧ s.spots = request 1 :: [] ∧ s.results.queue.length + s.results.reservations < 16 ∧
        s.closed (request 1).port = true ∧ 1 ≤ (request 1).gateTimeout) ∧
    (let s : State := { joined with
        spots := [request 1], results := { joined.results with queue := List.replicate 15 (record .waiting), reservations := 1 }
        engine := { Engine.idle with parked := some { job .sigamp .settling .idle with gateWait := 19999 } } }
     16 ≤ s.results.queue.length + s.results.reservations ∧ s.NoPassEnd ∧
        s.engine.parked = some { job .sigamp .settling .idle with gateWait := 19999 } ∧ 19999 < 10 * ticksPerMs) ∧
    (let s := surveying id
     s.spots = [] ∧ s.engine.parked = none ∧ s.survey.state = .running ∧ s.survey.inPass = true ∧
        s.survey.slots[(47 : SlotId)] = some lastEntry ∧ lastEntry.enabled = true ∧ s.survey.cursor ≤ 47 ∧
        (∀ k : SlotId, s.survey.cursor ≤ k.val → k.val < 47 → s.survey.slots[k] = none) ∧
        s.results.queue.length + s.results.reservations < 16 ∧ s.closed lastEntry.port = true ∧
        1 ≤ lastEntry.gateTimeout) ∧
    (joined.engine.parked = none ∧ joined.survey.state ≠ .running) ∧
    ({ Engine.idle with handingOver := true } : Engine).handingOver = true := by decide +kernel

/-- A survey at slot 46, whose port 6 may be open, with `lastEntry` behind it. -/
def twoEntries (mode : SurveyMode) (pacing : Pacing) (closed : Bool) : State :=
  let s := surveying fun v =>
    { v with
      slots := v.slots.set 46 (some { lastEntry with port := 6 }), cursor := 46, mode := mode, pacing := pacing }
  s.modPort 6 fun r => { r with switch := { r.switch with state := if closed then .joined else .isolated } }

theorem test_meets_SurveyEntriesStartOrWait :
    (let j := spot .vseg .sampling (.timed 0)
     (active j).engine.handingOver = false ∧ (active j).engine.active = some j ∧ j.isSurvey = false) ∧
    (let s := twoEntries .single .overwrite false
     s.engine.handingOver = false ∧ s.engine.active = none ∧ (∀ q : PortId, (s.port q).switch.slot ≠ .waiting) ∧
        s.spots = [] ∧ s.engine.parked = none ∧ s.survey.state = .running ∧ s.survey.inPass = true ∧
        s.survey.pacing ≠ .stall ∧ s.closed 6 = false ∧ s.closed lastEntry.port = true ∧ 1 ≤ lastEntry.gateTimeout ∧
        s.survey.NextIs 46 { lastEntry with port := 6 }) ∧
    (let s := { twoEntries .continuous .stall true with
        results := { joined.results with queue := List.replicate 16 (record .waiting) } }
     s.survey.pacing = .stall ∧ 16 ≤ s.results.queue.length + s.results.reservations ∧
        s.survey.NextIs 46 { lastEntry with port := 6 }) ∧
    (surveying fun v => { v with inPass := false }).survey.inPass = false ∧
    (¬(surveying fun v => { v with cursor := 48 }).NoPassEnd ∧
      (surveying fun v => { v with cursor := 48, floorLeft := 1 }).progressPass.survey.inPass = false ∧
      (surveying fun v => { v with cursor := 48 }).progressPass.survey.inPass = true) ∧
    (let j : Job := { job .sigamp .settling .idle with gateWait := 20000 }
     j.isSurvey = true ∧ j.quantity = .sigamp ∧ (joined.port j.port).tap.trafficGate = false ∧
        j.gateTimeout * ticksPerMs ≤ j.gateWait ∧ joined.survey.state ≠ .running) := by
  refine ⟨by decide +kernel, ?_, ⟨rfl, by decide +kernel, (Survey.nextEntry_eq_some_iff _ _ _).1 (by decide +kernel)⟩,
    rfl, by decide +kernel, by decide +kernel⟩
  exact ⟨rfl, rfl, by decide +kernel, rfl, rfl, rfl, rfl, by decide +kernel, by decide +kernel, by decide +kernel,
    by decide, (Survey.nextEntry_eq_some_iff _ _ _).1 (by decide +kernel)⟩

theorem test_meets_JobsEndWithoutValue :
    (let s : State := { State.reset with
        spots := [request 1], results := { joined.results with queue := List.replicate 15 (record .waiting) } }
     s.engine.handingOver = false ∧ s.engine.active = none ∧ s.engine.parked = none ∧
        (∀ q : PortId, (s.port q).switch.slot ≠ .waiting) ∧ s.survey.state ≠ .running ∧ s.spots = [request 1] ∧
        s.results.queue.length + s.results.reservations < 16 ∧ s.closed (request 1).port = false) ∧
    (let j := job .vseg .sampling (.timed 0)
     (active j).engine.active = some j ∧ j.isProbe = false ∧ j.reserved = true ∧ j.report = .reported ∧ j.port = 7 ∧
        j.port ≠ 0) ∧
    (let j : Job := { job .vseg .sampling (.timed 0) with reserved := false, report := .silent }
     (active j).engine.active = some j ∧ j.isProbe = false ∧ j.reserved = false ∧ j.report = .silent) ∧
    (let j : Job := { job .vseg .sampling (.timed 0) with reserved := false }
     let used := fun (u : Results) => u.queue.length + u.reservations
     j.reserved = false ∧ j.report = .reported ∧ ¬16 ≤ used { joined.results with reservations := 15 } ∧
        16 ≤ used { joined.results with queue := [record (.sent 0), record .waiting], reservations := 14 } ∧
        joined.survey.lost ≤ 255 ∧ (record (.sent 0)).discardable = false ∧ (record .waiting).discardable = true) ∧
    ((probeJob 7).origin = .probe 7 ∧ ((active (probeJob 7)).port 7).switch.state = .probing ∧
      (State.reset.port 7).switch.state ≠ .probing) ∧
    joined.engine.active = none ∧ joined.engine.parked = none ∧
    (let j := job .vseg .settling .idle
     ({ joined with engine := { Engine.idle with parked := some j } } : State).engine.parked = some j ∧ j.port = 7 ∧
        j.port ≠ 0 ∧ j.isProbe = false ∧ j.reserved = true ∧ j.report = .reported) := by decide +kernel

theorem test_meets_SurveyJobYields :
    let j := job .vseg .sampling (.timed 0)
    let s := active j
    let k := spot .vseg .sampling (.timed 0)
    let waiting : State := { probing with engine := s.engine }
    ((active k).engine.handingOver = false ∧ (active k).engine.active = some k ∧ k.isSurvey = false ∧
      (active k).NoPassEnd) ∧
    (waiting.engine.active = some j ∧ j.isSurvey = true ∧ (waiting.port 7).switch.slot = .waiting ∧
      (∀ q : PortId, q.val < 7 → (waiting.port q).switch.slot ≠ .waiting) ∧ waiting.closed 7 = true) ∧
    ((∀ q : PortId, (s.port q).switch.slot ≠ .waiting) ∧
      ({ s with spots := [request 127] } : State).spots = request 127 :: [] ∧
      s.results.queue.length + s.results.reservations < 16 ∧ s.closed (request 127).port = true ∧
      1 ≤ (request 127).gateTimeout) ∧
    s.spots = [] := by decide +kernel

theorem test_meets_SettleEndsAndGateTimeouts :
    (let j := job .vseg .settling .idle
     (active j).engine.active = some j ∧ j.phase = .settling ∧ ¬(j.quantity = .sigamp ∨ j.quantity = .noise)) ∧
    (let j := job .noise .settling .idle
     j.phase = .settling ∧ ((cond7 fun r => { r with quietGate := true }).port 7).cond.quietGate = true) ∧
    (let j : Job := { job .noise .settling .idle with gateWait := 19999 }
     j.phase = .settling ∧ (joined.port 7).cond.quietGate = false ∧ j.gateWait < j.gateTimeout * ticksPerMs) ∧
    (let j : Job := { job .sigamp .settling .idle with gateWait := 20000 }
     (joined.port 7).tap.trafficGate = false ∧ j.gateTimeout * ticksPerMs ≤ j.gateWait) ∧
    (job .vseg .sampling .idle).phase ≠ .settling ∧ joined.engine.active = none ∧
    (job .noise .gated .idle).phase = .gated ∧ (job .noise .sampling .idle).phase ≠ .gated := by decide +kernel

theorem test_meets_SampleEndAccumulates :
    (let j := job .vseg .sampling .idle
     (active j).engine.active = some j ∧ j.phase = .sampling ∧ ∀ left, j.sample ≠ .timed left) ∧
    (let j := job .vseg .sampling (.timed 40)
     j.phase = .sampling ∧ j.sample = .timed 40 ∧ j.samplesDone + 1 ≠ 2 ^ j.e) ∧
    (let j : Job := { job .vseg .sampling (.timed 0) with samplesDone := 3 }
     j.sample = .timed 0 ∧ j.samplesDone + 1 = 2 ^ j.e ∧ j.isProbe = false) ∧
    (let j : Job := { probeJob 7 with samplesDone := 15, phase := .sampling, sample := .timed 40 }
     j.origin = .probe 7 ∧ j.sample = .timed 40 ∧ j.samplesDone + 1 = 2 ^ j.e) := by
  refine ⟨⟨rfl, rfl, fun _ h => ?_⟩, by decide +kernel⟩
  cases h

theorem test_meets_GatedSamplesFollowSymbols :
    (let j := job .noise .sampling (.symbol false)
     (active j).engine.active = some j ∧ j.port = 7 ∧ j.sample = .symbol false ∧
        ¬(j.quantity = .sigamp ∨ (j.quantity = .noise ∧ false = true ∧ SymClass.quiet = .quiet))) ∧
    (let j := job .noise .sampling (.symbol true)
     j.sample = .symbol true ∧ j.quantity = .noise ∧ j.samplesDone + 1 ≠ 2 ^ j.e ∧
        (joined.port 7).cond.quietGate = false) ∧
    (let j : Job := { job .sigamp .sampling (.symbol false) with samplesDone := 3 }
     j.quantity = .sigamp ∧ j.samplesDone + 1 = 2 ^ j.e) ∧
    (let j := job .noise .gated .idle
     j.sample = .idle ∧ j.phase ≠ .settling ∧ j.phase = .gated ∧ (joined.port 7).cond.quietGate = false ∧
        ((cond7 fun r => { r with quietGate := true }).port 7).cond.quietGate = true) ∧
    (let j : Job := { job .sigamp .sampling .idle with gateWait := 19999 }
     j.phase = .sampling ∧ (joined.port 7).tap.trafficGate = false ∧ j.gateWait < j.gateTimeout * ticksPerMs) ∧
    (let j : Job := { job .sigamp .sampling .idle with gateWait := 20000 }
     j.phase = .sampling ∧ j.gateTimeout * ticksPerMs ≤ j.gateWait) ∧
    (job .noise .settling .idle).phase = .settling := by decide +kernel

/-! ### Chapter 4 -/

/-- A survey whose pass is over. -/
def passOver (mode : SurveyMode) (floorLeft : Nat) (tick : Bool) : State :=
  surveying fun v => { v with cursor := 48, mode := mode, floorLeft := floorLeft, tickPending := tick }

/-- The conditions of a pass end hold in `passOver`. -/
theorem passOver_due (mode : SurveyMode) (floorLeft : Nat) (tick : Bool) :
    let s := passOver mode floorLeft tick
    s.survey.state = .running ∧ s.survey.inPass = true ∧
      (∀ (k : SlotId) (d : SurveyEntry), s.survey.cursor ≤ k.val → s.survey.slots[k] = some d → d.enabled = false) ∧
      ∀ j : Job, s.engine.active = some j ∨ s.engine.parked = some j → j.isSurvey = false :=
  ⟨rfl, rfl, fun k _ h => absurd k.isLt (Nat.not_lt.mpr h), no_survey_job rfl rfl⟩

theorem test_meets_PassEndsByMode :
    State.reset.survey.state ≠ .running ∧ (passOver .single 0 false).survey.mode = .single ∧
    ((passOver .continuous 1 false).survey.mode = .continuous ∧ 0 < (passOver .continuous 1 false).survey.floorLeft) ∧
    (passOver .continuous 0 false).survey.floorLeft = 0 ∧
    ((passOver .timed 0 false).survey.mode = .timed ∧ (passOver .timed 0 false).survey.tickPending = false) ∧
    (passOver .timed 0 true).survey.tickPending = true := by decide +kernel

/-- A survey between two passes. -/
def between (mode : SurveyMode) (state : SurveyState) (inPass : Bool) : Survey :=
  { Survey.atReset with
    mode := mode, state := state, inPass := inPass, floorLeft := 2000, interval := 10, pace := some 20000 }

theorem test_meets_FloorAndTickStartPasses :
    ((between .continuous .running false).mode = .continuous ∧ (between .continuous .running false).state = .running ∧
      (between .continuous .running false).inPass = false) ∧
    ((between .continuous .held false).state = .held ∧ (between .continuous .held false).inPass = false) ∧
    ((between .timed .running false).mode ≠ .continuous ∨ false = true) ∧ State.reset.survey.pace = none ∧
    (between .timed .running false).pace = some 20000 ∧
    ((between .timed .running true).state = .running ∧ (between .timed .running true).inPass = true) ∧
    (between .timed .held true).state = .held := by decide +kernel

theorem test_meets_SurveyPutWritesSlots :
    let payload : List Byte := [32, 16] ++ (List.replicate 16 [1, 7, 4, 8, 8, 0xFF, 0xFF, 1, 1]).flatten
    let field := fun k n => u8 payload (2 + 9 * k + n)
    joined.Executes 0x20 255 ∧ 1 ≤ u8 payload 1 ∧ u8 payload 1 ≤ 16 ∧ u8 payload 0 < 48 ∧
      u8 payload 0 + u8 payload 1 ≤ 48 ∧ payload.length = 2 + 9 * u8 payload 1 ∧
      (∀ k, k < 16 → field k 0 = 0 ∨
        (field k 0 = 1 ∧ field k 1 < 8 ∧ field k 2 < 5 ∧ field k 3 ≤ 8 ∧ field k 4 ≤ 8 ∧
          1 ≤ u16 payload (2 + 9 * k + 5) ∧ field k 7 < 2 ∧ field k 8 < 2)) ∧
      u8 payload 1 = 16 ∧ joined.survey.state = .stopped := by decide +kernel

theorem test_meets_SurveyRunStartsPass :
    let s := surveying fun v => { v with state := .stopped, inPass := false }
    s.Executes 0x22 255 ∧ s.survey.state = .stopped ∧ s.survey.slots[(47 : SlotId)] = some lastEntry ∧
      lastEntry.enabled = true ∧ 10 ≤ (10 : Byte).toNat + 256 * (0 : Byte).toNat := by decide +kernel

theorem test_meets_SurveyHoldAndResume :
    let held := fun (mode : SurveyMode) (inPass tick : Bool) (floor : Nat) =>
      surveying fun v => { v with state := .held, mode := mode, inPass := inPass, tickPending := tick, floorLeft := floor }
    ((surveying id).Executes 0x23 255 ∧ (surveying id).survey.state = .running) ∧
    ((held .timed true false 0).Executes 0x24 255 ∧ (held .timed true false 0).survey.state = .held ∧
      (held .timed true false 0).survey.inPass = true) ∧
    ((held .continuous false false 1).survey.inPass = false ∧ (held .continuous false false 1).survey.floorLeft ≠ 0) ∧
    ((held .continuous false false 0).survey.floorLeft = 0 ∧ (held .timed false true 0).survey.tickPending = true) := by
  decide +kernel

theorem test_meets_SurveyStopDiscards :
    let j := job .vseg .sampling (.timed 0)
    let running := fun (g : Engine) => { surveying id with engine := g }
    ((surveying id).Executes 0x25 255 ∧ (surveying id).survey.state ≠ .stopped ∧
      ∀ k, (surveying id).engine.active = some k ∨ (surveying id).engine.parked = some k → k.isSurvey = false) ∧
    ((running { Engine.idle with active := some j }).engine.active = some j ∧ j.isSurvey = true ∧
      (running { Engine.idle with active := some j }).engine.parked = none) ∧
    ((running { Engine.idle with parked := some j }).engine.parked = some j ∧
      ∀ k, (running { Engine.idle with parked := some j }).engine.active = some k → k.isSurvey = false) :=
  ⟨⟨by decide +kernel, by decide +kernel, no_survey_job rfl rfl⟩, by decide +kernel, rfl, none_has rfl⟩

theorem test_meets_SpotQueueRequests :
    let s : State := { joined with spots := List.replicate 7 (request 255) }
    (s.Executes 0x26 127 ∧ 1 ≤ (127 : Byte).toNat ∧ (127 : Byte).toNat ≤ 127 ∧ (8 : Byte).toNat ≤ 8 ∧
      1 ≤ (1 : Byte).toNat + 256 * (0 : Byte).toNat ∧ s.spots.length < 8) ∧
    (s.Executes 0x27 0 ∧ (255 : Byte) ≠ 0 ∧ ∃ r ∈ s.spots, r.tag = 255) := by decide +kernel

/-! ### Chapter 5 -/

/-- A completion of a job on port 7. -/
def completion (reserved : Bool) (report : ReportMode) (value : Option Nat) : Completion :=
  { job := { job .vseg .sampling .idle with reserved := reserved, report := report }, status := .ok, value := value }

theorem test_meets_ResultsAreDisposed :
    ((completion true .reported none).job.reserved = true ∧ (completion true .reported none).job.report = .reported) ∧
    ((completion false .silent (some 0)).job.reserved = false ∧
      (completion false .silent (some 0)).job.report = .silent) ∧
    ((completion false .reported (some 0)).job.report = .reported ∧ (List.replicate 15 (record .waiting)).length + 0 < 16) ∧
    (let sent := List.replicate 15 (record (.sent 0))
     16 ≤ (sent ++ record .waiting :: []).length + 0 ∧ 255 ≤ 255 ∧ (∀ q ∈ sent, q.discardable = false) ∧
        (record .waiting).discardable = true) ∧
    (∀ q ∈ List.replicate 16 (record (.sent 0)), q.discardable = false) := by decide +kernel

/-- A monitor of VSEG 16..1048575 on port 7, releasing at 15. -/
def monitor (outside : Bool) (insideCount : Nat) : Monitor :=
  { Monitor.atReset with
    guarded := 0x80, low := 16, releaseCount := 15
    ports := Vector.replicate 8 { outside := outside, insideCount := insideCount } }

theorem test_meets_MonitorsTestResults :
    (completion true .reported none).value = none ∧ (completion true .reported (some 0)).value = some 0 ∧
    (let m := monitor false 0
     m.quantity = .vseg ∧ m.guarded.getLsbD 7 = true ∧ m.guarded.getLsbD 6 = false ∧ m.appliesTo = .both ∧
        m.ports[7].outside = false ∧ ¬(16 < m.low ∨ m.high < 1048575) ∧ 15 < m.low) ∧
    (monitor true 0).ports[7].outside = true ∧
    ((monitor true 13).ports[7].insideCount + 1 ≠ (monitor true 13).releaseCount) ∧
    ((monitor true 14).ports[7].insideCount + 1 = (monitor true 14).releaseCount) := by decide +kernel

theorem test_meets_MonitorSetReplaces :
    let limits : List Byte := le 4 1048575 ++ le 4 1048575
    joined.Executes 0x30 255 ∧ limits.length = 8 ∧ u32 limits 0 ≤ u32 limits 4 ∧ u32 limits 4 ≤ 1048575 ∧
      1 ≤ (15 : Byte).toNat ∧ (15 : Byte).toNat ≤ 15 ∧ (11 : Fin 12) ≠ 0 := by decide +kernel

theorem lands_next {o : Host.Outcome State Fault Refusal} (h : (lands o).isSome = true) : ∃ t, o = .next t := by
  cases o with
  | next t => exact ⟨t, rfl⟩
  | fault r => cases r
  | refused r => cases h

/-- A JOINED port 7 with a trip waiting, an alert-enabled monitor that has it OUTSIDE, and a spot job on it. -/
def busy : State :=
  { switch7 fun w => { w with state := .joined, settle := none } with
    results := { joined.results with
      monitors := joined.results.monitors.set 11 { monitor true 14 with alertEnable := true }
      alert := true, reservations := 1 }
    engine := { Engine.idle with active := some (spot .vseg .sampling (.timed 0)) }
    summary := (after (.overcurrentTrip 7) joined).summary
    pending := [.overcurrentTrip 7] }

theorem busy_steps : ∃ t, step busy = .next t := lands_next (by decide +kernel)

theorem test_meets_AlertFollowsMonitors : busy.AlertLaw ∧ ∃ t, step busy = .next t :=
  ⟨by unfold State.AlertLaw; decide +kernel, busy_steps⟩

/-! ### Chapter 6 -/

theorem test_meets_OvercurrentTrips :
    State.reset.closed 7 = false ∧ ((switch7 fun w => { w with state := .joined }).port 7).switch.state = .joined ∧
    (let r := (switch7 fun w => { w with retries := 1 }).port 7
     r.switch.state = .probing ∧ r.switch.retries + 1 < r.params.maxRetries) ∧
    (let r := (switch7 fun w => { w with retries := 2 }).port 7
     r.switch.state = .probing ∧ r.params.maxRetries ≤ r.switch.retries + 1) := by decide +kernel

theorem test_meets_HoldAndSettleTimers :
    (joined.port 7).switch.state ≠ .holdoff ∧
    (let w := ((switch7 fun w => { w with state := .holdoff, hold := some 0 }).port 7).switch
     w.state = .holdoff ∧ w.hold = some 0) ∧
    (State.reset.port 7).switch.state ≠ .probing ∧
    ((joined.port 7).switch.state = .probing ∧ (joined.port 7).switch.settle = some 40000 ∧
      ((joined.elapse 40000).port 0).switch.settle = some 0) ∧
    ({ joinMode := true, rate1 := false, rate0 := false } : Straps).joinMode = true := by decide +kernel

theorem test_meets_ProbeVerdicts :
    (State.reset.port 7).switch.state ≠ .probing ∧
    ((joined.port 7).switch.state = .probing ∧ 3000 ≤ (joined.port 7).params.probeLimit) ∧
    (let r := (switch7 fun w => { w with retries := 1 }).port 7
     r.params.probeLimit < 3001 ∧ r.switch.retries + 1 < r.params.maxRetries) ∧
    (let r := (switch7 fun w => { w with retries := 2 }).port 7
     r.params.probeLimit < 3001 ∧ r.params.maxRetries ≤ r.switch.retries + 1) := by decide +kernel

theorem test_meets_PortJoinAndIsolate :
    (State.reset.Executes 0x12 255 ∧ State.reset.closed 7 = false) ∧ (joined.Executes 0x12 255 ∧ joined.closed 7 = true) ∧
    (State.reset.Executes 0x13 255 ∧ joined.Executes 0x13 255) := by decide +kernel

theorem busy_switchLaw : busy.SwitchLaw := by
  intro p
  constructor <;> revert p <;> decide +kernel

theorem busy_classifierLaw : busy.ClassifierLaw := by
  intro p
  constructor <;> revert p <;> decide +kernel

theorem test_meets_PortLawsKept : busy.SwitchLaw ∧ busy.ClassifierLaw ∧ ∃ t, step busy = .next t :=
  ⟨busy_switchLaw, busy_classifierLaw, busy_steps⟩

theorem test_meets_PlaceLawKept : busy.PlaceLaw ∧ ∃ t, step busy = .next t :=
  ⟨{  reservations := by decide +kernel
      places := by decide +kernel
      parked := none_has rfl
      probe := fun j h => by cases h; decide
      one := fun j h => by cases h; decide
      handingOver := rfl
      spots := by decide +kernel }, busy_steps⟩

/-! ### Chapter 7 -/

theorem test_meets_ReactionTableRequests :
    (joined.Executes 0x38 255 ∧ (List.replicate 16 (0xFF : Byte)).length = 16 ∧ entry.config.Acceptable) ∧
    (joined.Executes 0x3A 255 ∧ true = true ∧
      ∀ i : EntryId, (0 + 256 * 0 + 65536 * (0x80 : Byte).toNat).testBit i.val = true → (reacting id).reactions[i] ≠ none) ∧
    false = false := by
  and_intros <;> decide +kernel

theorem test_meets_EntriesFire :
    (let s := reacting id
     joined.reactions[(23 : EntryId)] = none ∧ s.reactions[(23 : EntryId)] = some entry ∧
      (entry.armed = true ∧ entry.config.matchesTrigger (.trip 7) = true ∧ entry.holdbackTimer = none) ∧
      (s.performAction 23 entry.config (some 7)).2 = .done ∧
      (s.performAction 23 { entry.config with action := .surveyHold } none).2 = .refusedState ∧
      (({ s with spots := List.replicate 8 (request 1) } : State).performAction 23
        { entry.config with action := .spot } (some 7)).2 = .refusedFull) ∧
    ¬(({ entry with holdbackTimer := some 0 } : ReactionEntry).holdbackTimer = none) ∧
    (let e : ReactionEntry := { entry with holdbackTimer := some 0 }
     (reacting fun _ => e).reactions[(23 : EntryId)] = some e ∧ e.holdbackTimer = some 0) := by decide +kernel

theorem test_meets_ActionsAct :
    let c := fun (action : ReactionAction) (target : Byte) => { entry.config with action := action, target := target }
    ((c .isolate 0xFE).target = 0xFE ∧ (some 7 : Option PortId) = some 7 ∧ (c .isolate 0xFE).action = .isolate ∧
      joined.closed 7 = true ∧ State.reset.closed 7 = false) ∧
    ((c .rejoin 7).target = portByte 7 ∧ (c .rejoin 7).action = .rejoin) ∧
    ((c .spot 0).target = portByte 0 ∧ (c .spot 0).action = .spot ∧ (List.replicate 7 (request 1)).length < 8 ∧
      8 ≤ (List.replicate 8 (request 1)).length) ∧
    ((c .notify 0xFD).target = 0xFD ∧ (c .notify 0xFD).action = .notify ∧ (c .notify 7).target = portByte 7) ∧
    ((c .surveyHold 0).action = .surveyHold ∧ (surveying id).survey.state = .running ∧
      joined.survey.state ≠ .running) ∧
    ((c .surveyResume 0).action = .surveyResume ∧ (surveying fun v => { v with state := .held }).survey.state = .held ∧
      (surveying fun v => { v with state := .held }).survey.inPass = true ∧ joined.survey.state ≠ .held) ∧
    ((between .timed .held false).inPass = false ∧ (between .timed .held false).tickPending = false) ∧
    ((between .continuous .held false).mode = .continuous ∧
      { between .continuous .held false with floorLeft := 0 }.floorLeft = 0) := by decide +kernel

/-! ### Chapter 8 -/

theorem test_meets_OccurrencesAreLatched :
    (∃ t, exec (.fullReset { joinMode := true, rate1 := true, rate0 := true }) busy = .next t) ∧
    (Occurrence.monRelease 11 7).flag = none ∧ (Occurrence.trip 7).flag = some (7, 7) ∧
    (Occurrence.note 8 23).flag = some (8, 3) ∧
    ({ joined.summary with stamp := 0xFFFFFFFF }.stamp = 0xFFFFFFFF ∧ joined.summary.stamp ≠ 0xFFFFFFFF) ∧
    ((7 : FlagId) ≠ noteFlag 7 ∧ (joined.summary.masks[(7 : SourceId)]).getLsbD 7 = false) ∧
    ((3 : FlagId) = noteFlag 8 ∧ ∀ e ∈ [event .waiting], ¬(e.source = 8 ∧ e.send = .waiting)) ∧
    ((∀ k ∈ [event (.sent 0)], ¬(k.source = 7 ∧ k.send = .waiting)) ∧ (event .waiting).source = 7 ∧
      (event .waiting).send = .waiting ∧ (event .waiting).notes.Pairwise (· < ·)) ∧
    (joined.Executes 0x41 255 ∧ joined.summary.stamp.toNat < (1 : Word32).toNat) := by
  refine ⟨lands_next (by decide +kernel), ?_⟩
  decide +kernel

/-- Every flag of every source. -/
def allPairs : List (SourceId × Word16) := (indexes 9).map fun i => (i, if i = 8 then 15 else 2047)

theorem test_meets_SummaryClearAndMask :
    (busy.Executes 0x41 255 ∧ allPairs.length ≤ 9 ∧ (allPairs.map Prod.fst).Nodup ∧
      (∀ q ∈ allPairs, q.2.toNat < 2 ^ (if q.1 = 8 then 4 else 11)) ∧
      (1 : Word32).toNat ≤ busy.summary.stamp.toNat) ∧
    (busy.Executes 0x42 255 ∧ (7 : Byte).toNat + 256 * (0 : Byte).toNat < 2 ^ 3 ∧
      (0xFF : Byte).toNat + 256 * (3 : Byte).toNat < 2 ^ 10) := by
  refine ⟨⟨by decide +kernel, by decide +kernel, by decide +kernel, ?_, by decide +kernel⟩, by decide +kernel⟩
  simp only [allPairs, List.mem_map, forall_exists_index, and_imp]
  intro q i _ h
  subst h
  revert i
  decide

theorem test_meets_SentEventsMerge :
    let noted := fun (notes : List Nat) => { event .waiting with notes := notes }
    ([event (.sent 0), { event .waiting with source := 8 }, noted [1, 23]].filter fun e => decide (e.source = 7)) =
      event (.sent 0) :: [noted [1, 23]] ∧
    (∀ e ∈ event (.sent 0) :: [noted [1, 23]], e.notes.Pairwise (· < ·)) := by decide +kernel

/-! ### Chapters 9 and 10 -/

theorem test_meets_HelloOpensSession :
    joined.Executes 0x01 255 ∧ 1 ≤ (4 : Byte).toNat ∧ (4 : Byte).toNat ≤ 4 ∧ (1 : Byte) ≠ 0 ∧ 1 ≤ (7 : Byte).toNat ∧
      (7 : Byte).toNat ≤ 7 := by decide +kernel

/-- `joined` with four cached replies. -/
def fourCached : State :=
  { joined with link := { joined.link with cache := [1, 2, 3, 4].map fun t => { tag := t, kind := 0x14, body := [] } } }

theorem test_meets_RequestsAreAnswered :
    fourCached.link.cache.length ≤ 4 ∧ fourCached.Executes 0x03 1 ∧ fourCached.Executes 0x03 0 ∧
    (answerRequest 0x13 1 [8] fourCached).2 = .refused .range 2 := by decide +kernel

theorem test_meets_RepeatedHeldOrDropped :
    let holding := fun (n : Nat) => List.replicate n ({ kind := 0x14, tag := 1, payload := [] } : HeldFrame)
    (requestCommand 0x14 255 [7, 1] = some (.counts 255 [7, 1]) ∧ requestCommand 0x43 255 [] = none ∧
      (0x43 : Byte) ≠ 0x70) ∧
    (joined.link.resetPending = false ∧ resetting.link.resetPending = true ∧ (holding 3).length < 4 ∧
      4 ≤ (holding 4).length) ∧
    (cached.link.resetPending = false ∧ (255 : Byte) ≠ 0 ∧
      cached.link.cache = [] ++ { tag := 255, kind := 0x14, body := [1] } :: [] ∧ cached.link.replies.length < 4) ∧
    4 ≤ (List.replicate 4 ([] : List Byte)).length ∧ (∀ d ∈ cached.link.cache, ¬(d.tag = 254 ∧ d.kind = 0x14)) := by
  decide +kernel

/-- Requirement `n` of a request is the first that does not hold. -/
def fails (kind tag : Byte) (payload : List Byte) (s : State) (n : Nat) : Bool :=
  ((requestRequirements kind tag payload s).take n).all (·.holds) &&
    ((requestRequirements kind tag payload s)[n]?.map (·.holds) == some false)

theorem test_requirements_fail_in_order :
    let entry : List Byte := [23, 1, 0, 1, 0, 0, 0, 7, 3, 0, 0, 0, 0, 0, 0xFD, 1, 0, 0]
    fails 0x10 255 ([7, 0xFF, 1, 1, 1, 15, 0] ++ List.replicate 7 1) joined 5 = true ∧
    fails 0x10 255 ([7, 0xFF, 1] ++ List.replicate 11 1) joined 10 = true ∧
    fails 0x20 255 ([47, 1, 1, 7, 4, 8, 8, 0, 0, 1, 1]) joined 9 = true ∧
    fails 0x20 255 ([47, 2] ++ List.replicate 18 0) joined 3 = true ∧ fails 0x21 255 [47, 2] joined 3 = true ∧
    fails 0x22 255 [2, 1, 1, 9, 0] joined 4 = true ∧ fails 0x26 127 [7, 4, 9, 9, 1, 0] joined 4 = true ∧
    fails 0x30 255 ([11, 4, 0xFF] ++ le 4 1048576 ++ le 4 1048575 ++ [15, 2, 1]) joined 3 = true ∧
    (∀ q ∈ [(24, 0, 1), (2, 1, 2), (8, 2, 3), (6, 3, 4), (8, 7, 7), (6, 8, 8), (2, 15, 14), (0, 3, 15)],
      fails 0x38 255 (entry.set q.2.1 (BitVec.ofNat 8 q.1)) joined q.2.2 = true) ∧
    fails 0x38 255 ((entry.set 2 7).set 14 0xFE) joined 16 = true ∧ fails 0x38 255 (entry.set 8 0) joined 17 = true ∧
    fails 0x3A 255 [1, 0, 0, 2] joined 1 = true ∧ fails 0x3A 255 [1, 0, 0, 1] joined 2 = true ∧
    fails 0x40 255 [0x1F, 0] joined 1 = true ∧ fails 0x41 255 [0, 0, 0, 0, 1, 9, 1, 0] joined 2 = true ∧
    fails 0x41 255 [0, 0, 0, 0, 2, 8, 1, 0, 8, 1, 0] joined 6 = true ∧
    fails 0x41 255 [0, 0, 0, 0, 1, 8, 16, 0] joined 4 = true ∧ fails 0x42 255 [8, 2, 8, 0] joined 2 = true ∧
    fails 0x42 255 [8, 1, 8, 0] joined 3 = true := by and_intros <;> decide +kernel

theorem test_meets_RequestsAreRefused :
    (requestCommand 0x14 255 [7, 1] = some (.counts 255 [7, 1]) ∧ joined.Executes 0x14 255 ∧
      ∀ k ∈ requestRequirements 0x14 255 [7, 1] joined, k.holds = true) ∧
    (joined.Executes 0x6F 255 ∧ (0x6F : Byte) ≠ 0x70 ∧ requestCommand 0x6F 255 [] = none) ∧
    (requestCommand 0x26 255 [] = some (.spot 255 []) ∧ fixedLength 0x26 = some 6 ∧ ([] : List Byte).length ≠ 6) ∧
    (([] : List Byte).length < 2 ∧ u8 [0, 16] 1 ≤ 16 ∧ 1 ≤ u8 [0, 16] 1 ∧ ([0, 16] : List Byte).length ≠ 2 + 9 * 16) ∧
    (u8 [0, 0, 0, 0, 9] 4 ≤ 9 ∧ ([0, 0, 0, 0, 9] : List Byte).length ≠ 5 + 3 * 9) ∧ 8 ≤ (8 : Byte).toNat ∧
    ((7 :: List.replicate 13 (0 : Byte)).length = 14 ∧ u16 (7 :: List.replicate 13 0) 1 = 0 ∧
      byteAt (7 :: List.replicate 13 0) 0 = portByte 7 ∧ (joined.port 7).switch.state = .probing) ∧
    (128 ≤ (128 : Byte).toNat ∧ (0 : Byte).toNat = 0 ∧ (127 : Byte).toNat ≤ 127 ∧ u8 [7, 4, 8, 8, 1, 0] 0 < 8 ∧
      u8 [7, 4, 8, 8, 1, 0] 1 < 5 ∧ u8 [7, 4, 8, 8, 1, 0] 2 ≤ 8 ∧ u8 [7, 4, 8, 8, 1, 0] 3 ≤ 8 ∧
      1 ≤ u16 [7, 4, 8, 8, 1, 0] 4 ∧ 8 ≤ (List.replicate 8 (request 1)).length) ∧
    (∀ r ∈ [request 1], r.tag ≠ 2) ∧
    (joined.survey.state ≠ .running ∧ joined.survey.state ≠ .held ∧ joined.survey.state = .stopped ∧
      (surveying id).survey.state ≠ .stopped) ∧
    (let run : List Byte := [2, 1, 1, 10, 0]
     run.length = 5 ∧ u8 run 0 < 3 ∧ u8 run 1 < 2 ∧ u8 run 2 < 2 ∧ 10 ≤ u16 run 3 ∧
        ∀ i : SlotId, joined.survey.slots[i] = none) ∧
    12 ≤ (12 : Byte).toNat ∧
    (let set : List Byte := [11, 4, 0xFF] ++ le 4 1048575 ++ le 4 1048574 ++ [15, 2, 1]
     set.length = 14 ∧ u8 set 0 < 12 ∧ u8 set 1 < 5 ∧ 1 ≤ u8 set 11 ∧ u8 set 11 ≤ 15 ∧ u8 set 12 < 3 ∧ u8 set 13 < 2 ∧
        u32 set 3 ≤ 1048575 ∧ u32 set 7 < u32 set 3) ∧
    24 ≤ (24 : Byte).toNat ∧
    ((0 + 256 * 0 + 65536 * (0x80 : Byte).toNat).testBit 23 = true ∧ joined.reactions[(23 : EntryId)] = none ∧
      ∀ k : EntryId, k.val < 23 → (0 + 256 * 0 + 65536 * (0x80 : Byte).toNat).testBit k.val = true →
        joined.reactions[k] ≠ none) ∧
    (4 < (5 : Byte).toNat ∧ 7 < (8 : Byte).toNat ∧ 2 ≤ (2 : Byte).toNat) := by
  and_intros <;> decide +kernel

theorem test_meets_ReadsReport :
    (joined.Executes 0x11 255 ∧ joined.Executes 0x31 255 ∧ joined.Executes 0x39 255 ∧ joined.Executes 0x40 255) ∧
    ((47 : Byte).toNat < 48 ∧ 1 ≤ (1 : Byte).toNat ∧ (32 : Byte).toNat + (16 : Byte).toNat ≤ 48) ∧
    (joined.survey.slots[(47 : SlotId)] = none ∧ (surveying id).survey.slots[(47 : SlotId)] = some lastEntry) ∧
    (joined.reactions[(23 : EntryId)] = none ∧ (reacting id).reactions[(23 : EntryId)] = some entry) ∧
    ((1 : Byte).toNat < 2 ∧
      ((indexes 9).filter fun (i : SourceId) => ((7 : Byte).toNat + 256 * (1 : Byte).toNat).testBit i.val).length ≤ 4) := by
  decide +kernel

theorem test_meets_StatusSnapshot :
    joined.Executes 0x02 255 ∧ joined.engine.active = none ∧ joined.engine.parked = none ∧
    (active (probeJob 7)).engine.active = some (probeJob 7) ∧
    ({ joined with engine := { Engine.idle with parked := some (job .vseg .settling .idle) } } : State).engine.parked =
      some (job .vseg .settling .idle) := by decide +kernel

theorem test_meets_AckRemovesReports :
    (let s := session id [record (.sent 0)] [event (.sent 255)]
     s.link.session.state = .opened ∧ (∃ r ∈ s.results.queue, r.send = .sent 0) ∧
        (∃ e ∈ s.summary.events, e.send = .sent 255) ∧
        (∀ r ∈ s.results.queue, r.send ≠ .sent 1) ∧ ∀ e ∈ s.summary.events, e.send ≠ .sent 1) ∧
    joined.link.session.state ≠ .opened ∧ ([0] : List Byte) ≠ [] ∧
    ({ joined.link with line := some { report := true, bytes := [] } }.line = some { report := true, bytes := [] } ∧
      joined.link.line = none) := by decide +kernel

theorem test_meets_OutputArbiter :
    (let s := session id [record (.sent 0), record .waiting] [event .waiting]
     s.link.line = none ∧ s.link.replies = [] ∧ s.link.session.retransmit = [] ∧ s.link.session.state = .opened ∧
        s.sentNumbers.length < s.link.session.window ∧ s.summary.events = [] ++ event .waiting :: [] ∧
        s.results.queue = [record (.sent 0)] ++ record .waiting :: []) ∧
    resetting.link.line = some { report := false, bytes := [] } ∧ resetting.link.replies = okReply 0x03 7 [] :: [] ∧
    (let s := session (fun v => { v with retransmit := [0] }) [record (.sent 0)] []
     s.link.session.retransmit = 0 :: [] ∧ (s.sentFrame 0).isSome = true) ∧
    (let s := session id ([0, 1, 2, 3].map fun q => record (.sent q)) []
     s.link.session.window ≤ s.sentNumbers.length ∧ (∀ r ∈ s.results.queue, r.send ≠ .waiting) ∧
        ∀ e ∈ s.summary.events, e.send ≠ .waiting) := by decide +kernel

theorem test_meets_ReportsCarryRecords :
    3 < 4 ∧ [event (.sent 255), event (.sent 0)] = [event (.sent 255)] ++ event (.sent 0) :: [] ∧
    (∀ k ∈ [event (.sent 255)], k.send ≠ .sent 0) ∧
    [record .waiting, record (.sent 1)] = [record .waiting] ++ record (.sent 1) :: [] ∧
    (∀ k ∈ [record .waiting], k.send ≠ .sent 1) ∧ (∀ k ∈ [event (.sent 255)], k.send ≠ .sent 1) := by decide +kernel

theorem test_meets_LinkTimersAndFrameEnds :
    joined.link.line = none ∧
    (resetting.link.line = some { report := false, bytes := [] } ∧ joined.link.resetPending = false) ∧
    (let s := session (fun v => { v with ackTimer := some 0, watchdog := some 0, retryCount := 2 }) [] []
     s.link.session.state = .opened ∧ s.link.session.ackTimer = some 0 ∧ s.link.session.watchdog = some 0 ∧
        s.link.session.retryCount < s.link.session.retransmitLimit) ∧
    (let s := session (fun v => { v with ackTimer := some 0, retryCount := 3 }) [] []
     s.link.session.retransmitLimit ≤ s.link.session.retryCount) ∧
    joined.link.session.state ≠ .opened := by decide +kernel

theorem test_meets_ReceiverSteps :
    (Receiver.hunting.state = .hunt ∧ (0xC5 : Byte) = 0xC5 ∧ (0xC4 : Byte) ≠ 0xC5) ∧
    (2 ≤ (2 : Byte).toNat ∧ (240 : Byte).toNat ≤ 240 ∧ (1 : Byte).toNat < 2 ∧ 240 < (241 : Byte).toNat) ∧
    (let rx : Receiver := { Receiver.hunting with state := .body, len := 2 }
     rx.state = .body ∧ rx.body.length + 1 ≠ rx.len ∧ ({ rx with body := [0] } : Receiver).body.length + 1 = rx.len) ∧
    (let rx : Receiver := { Receiver.hunting with state := .check, len := 2, body := [0x02, 1], gap := some 0 }
     rx.state = .check ∧ rx.check = [] ∧ rx.gap = some 0 ∧
        ∃ hi lo : Byte, hi ++ lo = frameCheck (BitVec.ofNat 8 rx.len :: rx.body)) := by
  refine ⟨by decide +kernel, by decide +kernel, by decide +kernel, rfl, rfl, rfl, ?_⟩
  exact ⟨(frameCheck [2, 2, 1]).extractLsb' 8 8, (frameCheck [2, 2, 1]).extractLsb' 0 8, by decide +kernel⟩

theorem test_meets_FramesAreReceivedWhole :
    (2 ≤ [(0x70 : Byte), 0].length ∧ (0x14 :: 255 :: List.replicate 238 (0 : Byte)).length ≤ 240) ∧
    joined.link.rx.state = .hunt ∧ joined.arbitrate = joined ∧
    (requestCommand 0x02 255 [] = some (.status 255 []) ∧ requestCommand 0x71 255 [] = none ∧
      (0x71 : Byte) ≠ 0x70) := by decide +kernel

theorem busy_stampLaw : busy.StampLaw := by
  intro source flag t h
  have k : ∀ (i : SourceId) (f : FlagId),
      ((busy.summary.flags[i][f]).map BitVec.toNat).getD 0 ≤ busy.summary.stamp.toNat := by decide +kernel
  have := k source flag
  rw [h] at this
  exact this

/-- A full window of SENT reports, four queued replies and a full cache. -/
def full : State :=
  let s := session id ([0, 1, 2, 3].map fun q => record (.sent q)) []
  { s with
    link := { s.link with replies := [[], [], [], []], cache := fourCached.link.cache }, pending := [.frameSent] }

theorem test_meets_SummaryAndLinkLawsKept :
    (busy.StampLaw ∧ ∃ t, step busy = .next t) ∧ (full.LinkLaw ∧ full.SessionLaw ∧ ∃ t, step full = .next t) ∧
    joined.link.session.state ≠ .opened := by
  refine ⟨⟨busy_stampLaw, busy_steps⟩, ⟨?_, ?_, lands_next (by decide +kernel)⟩, by decide +kernel⟩ <;>
    constructor <;> decide +kernel

end Sys2Proof.Tests
end

section
/-! COUNTS (R16): the handler's answer in each case of its checks, the repeat that the reply cache answers (R162), and
the obligation assembled from them. -/
namespace Sys2Proof.Machine

/-- A repeat of a request is answered from the reply cache (R162): the cached body joins the reply queue, and the block
that owns the KIND is not asked. -/
theorem exec_of_cached {c : Instr} {s : State} {kind tag : Byte} {payload body : List Byte}
    (hc : exec c s = s.request kind tag payload) (hpending : s.link.resetPending = false)
    (hcached : s.link.cached kind tag = some body) (hroom : s.link.replies.length < replyPlaces) :
    exec c s = .next (s.frameArrives.modLink (Link.queueReply body)).arbitrate := by
  have pending : s.frameArrives.link.resetPending = false := hpending
  have cached : s.frameArrives.link.cached kind tag = some body := hcached
  have room : s.frameArrives.link.replies.length < replyPlaces := hroom
  rw [hc]
  simp only [State.request, State.takeRequest, State.execute, State.answered, pending, cached, room, if_true,
    Bool.false_eq_true, if_false]

/-- An executed request whose handler refuses it is refused. -/
theorem refuses_of_executes {c : Instr} {s : State} {kind tag : Byte} {payload : List Byte} {reason : Reason}
    {detail : Nat} (hc : exec c s = s.request kind tag payload) (h : s.Executes kind tag)
    (ha : answerRequest kind tag payload s.frameArrives =
      (s.frameArrives, .refused reason (BitVec.ofNat 8 detail))) :
    Refuses c kind tag reason detail s :=
  exec_of_executes hc h ha

/-- COUNTS runs as a request of KIND 0x14. -/
theorem exec_counts (tag : Byte) (payload : List Byte) (s : State) :
    exec (.counts tag payload) s = s.request 0x14 tag payload := rfl

/-- COUNTS is answered by the block that owns the ports. -/
theorem answerRequest_counts (tag : Byte) (payload : List Byte) (s : State) :
    answerRequest 0x14 tag payload s = answerCounts payload s := rfl

/-- ZERO and KEEP are the only options of COUNTS. -/
theorem toNat_lt_two_iff (choice : Byte) : choice.toNat < 2 ↔ choice = 0 ∨ choice = 1 := by
  constructor
  · intro h
    bv_omega
  · rintro (rfl | rfl) <;> decide

/-- An accepted COUNTS replies with the counters as they stood, and ZERO clears them. -/
theorem answerCounts_of_option (p : PortId) (choice : Byte) (s : State) (h : choice = 0 ∨ choice = 1) :
    answerCounts [portByte p, choice] s =
      (if choice = 1 then s.zeroCounters p else s,
        .ok (portByte p :: counterBytes (s.port p).tap.counters)) := by
  have port : u8 [portByte p, choice] 0 < 8 := (toNat_portByte p).trans_lt p.isLt
  have option : u8 [portByte p, choice] 1 < 2 := (toNat_lt_two_iff choice).mpr h
  have zero : u8 [portByte p, choice] 1 = 1 ↔ choice = 1 := BitVec.toNat_inj (y := 1)
  unfold answerCounts
  rw [validated_of_passes]
  · simp only [portAt_portByte, zero]
    rfl
  · simp [firstFailure, exactLength, lengthCheck, portCheck, rangeCheck, port, option]

/-- An option that is neither ZERO nor KEEP fails the range check at body position 3. -/
theorem answerCounts_of_unknown_option (p : PortId) (choice : Byte) (s : State) (h : ¬(choice = 0 ∨ choice = 1)) :
    answerCounts [portByte p, choice] s = (s, .refused .range (BitVec.ofNat 8 3)) := by
  have port : u8 [portByte p, choice] 0 < 8 := (toNat_portByte p).trans_lt p.isLt
  have option : ¬u8 [portByte p, choice] 1 < 2 := mt (toNat_lt_two_iff choice).mp h
  unfold answerCounts
  apply validated_of_fails
  simp [firstFailure, exactLength, lengthCheck, portCheck, rangeCheck, port, option]

/-- A port outside 0..7 fails the range check at body position 2, whatever the option. -/
theorem answerCounts_of_unknown_port (b choice : Byte) (s : State) (h : 8 ≤ b.toNat) :
    answerCounts [b, choice] s = (s, .refused .range (BitVec.ofNat 8 2)) := by
  have port : ¬u8 [b, choice] 0 < 8 := Nat.not_lt.mpr h
  unfold answerCounts
  apply validated_of_fails
  simp [firstFailure, exactLength, lengthCheck, portCheck, rangeCheck, port]

/-- Settles O11, clause by clause: the accepted request, the two refusals, and the repeat from the reply cache. -/
theorem countsReadsAndZeroes : Obligations.CountsReadsAndZeroes := by
  intro tag choice p s a k
  refine ⟨fun hexec hoption => ?accepted, fun hexec h0 h1 => ?option, fun hexec b hb => ?port,
    fun body hpending hcached hroom => ?cached⟩
  case accepted =>
    exact exec_of_executes (exec_counts ..) hexec
      ((answerRequest_counts ..).trans (answerCounts_of_option p choice a hoption))
  case option =>
    exact refuses_of_executes (exec_counts ..) hexec
      ((answerRequest_counts ..).trans (answerCounts_of_unknown_option p choice a (not_or.mpr ⟨h0, h1⟩)))
  case port =>
    exact refuses_of_executes (exec_counts ..) hexec
      ((answerRequest_counts ..).trans (answerCounts_of_unknown_port b choice a hb))
  case cached =>
    exact exec_of_cached (exec_counts ..) hpending hcached hroom

end Sys2Proof.Machine
end

section
/-! What leaves the window monitors and the ALERT pin alone: every operation of the engine, the switches, the reactions
and the host link, since the monitors test a result with status OK only (R97) and no reaction acts on them (R131). -/
namespace Sys2Proof.Machine

/-- What R103 speaks of: the window monitors and the ALERT pin. -/
def Results.monitorPart (u : Results) : Vector Monitor 12 × Bool := (u.monitors, u.alert)

/-! ## The result unit -/

@[simp] theorem Results.takeId_monitorPart (report : ReportMode) (u : Results) :
    (u.takeId report).monitorPart = u.monitorPart := by
  unfold Results.takeId
  split <;> rfl

/-- The placing of a result leaves the monitors, whatever becomes of the record (R90, R92, R93). -/
theorem disposeResult_monitorPart (c : Completion) (id : Word16) (now : Word32) (verdicts : List Verdict) (u : Results)
    (lost : Nat) : (disposeResult c id now verdicts u lost).1.monitorPart = u.monitorPart := by
  unfold disposeResult
  split
  case isTrue => rfl
  case isFalse =>
    split
    case h_1 =>
      unfold placeUnreserved
      split
      · rfl
      · split <;> rfl
    all_goals rfl

/-- Of the handling of a completion, the test alone reaches the monitors (step 2 of R86). -/
theorem State.handleResult_monitorPart (s : State) (c : Completion) :
    (s.handleResult c).1.results.monitorPart = ((s.results.takeId c.job.report).test c).1.monitorPart :=
  disposeResult_monitorPart ..

/-- A completion without a value is tested by no monitor (R97). -/
theorem State.handleResult_monitorPart_of_untested (s : State) (j : Job) (status : JobStatus) :
    (s.handleResult { job := j, status := status, value := none }).1.results.monitorPart = s.results.monitorPart :=
  (s.handleResult_monitorPart _).trans (Results.takeId_monitorPart ..)

@[simp] theorem State.latch_results (s : State) (o : Occurrence) : (s.latch o).results = s.results := by
  rw [s.latch_eq o]

@[simp] theorem State.latchAll_results (s : State) (os : List Occurrence) : (s.latchAll os).results = s.results := by
  rw [s.latchAll_eq os]

/-! ## The engine and the survey sequencer -/

@[simp] theorem State.discardProbe_results (s : State) (p : PortId) : (s.discardProbe p).results = s.results := by
  unfold State.discardProbe
  split <;> rfl

@[simp] theorem State.deliverUntested_monitorPart (s : State) (j : Job) (status : JobStatus) :
    (s.deliverUntested j status).results.monitorPart = s.results.monitorPart := by
  unfold State.deliverUntested
  split
  · rw [State.discardProbe_results]
  · rw [State.latchAll_results, State.handleResult_monitorPart_of_untested]
  · rw [State.latchAll_results, State.handleResult_monitorPart_of_untested]

@[simp] theorem State.endActive_monitorPart (s : State) (status : JobStatus) :
    (s.endActive status).results.monitorPart = s.results.monitorPart := by
  unfold State.endActive
  split <;> simp

@[simp] theorem State.endParked_monitorPart (s : State) (status : JobStatus) :
    (s.endParked status).results.monitorPart = s.results.monitorPart := by
  unfold State.endParked
  split <;> simp

@[simp] theorem State.enterGated_monitorPart (s : State) (j : Job) :
    (s.enterGated j).results.monitorPart = s.results.monitorPart := by
  unfold State.enterGated
  split <;> simp

@[simp] theorem State.settled_monitorPart (s : State) (j : Job) :
    (s.settled j).results.monitorPart = s.results.monitorPart := by
  unfold State.settled
  split
  · split <;> simp
  · simp

@[simp] theorem State.enterSettling_monitorPart (s : State) (j : Job) :
    (s.enterSettling j).results.monitorPart = s.results.monitorPart := by
  unfold State.enterSettling
  simp only
  split <;> simp

@[simp] theorem State.startJob_monitorPart (s : State) (j : Job) :
    (s.startJob j).results.monitorPart = s.results.monitorPart := by
  unfold State.startJob
  split <;> simp

@[simp] theorem State.reserve_monitorPart (s : State) (held : Bool) :
    (s.reserve held).results.monitorPart = s.results.monitorPart := by
  unfold State.reserve
  split <;> rfl

@[simp] theorem State.release_monitorPart (s : State) (held : Bool) :
    (s.release held).results.monitorPart = s.results.monitorPart := by
  unfold State.release
  split <;> rfl

@[simp] theorem State.progressPass_results (s : State) : s.progressPass.results = s.results := by
  unfold State.progressPass
  split <;> rfl

@[simp] theorem State.takeChoice_monitorPart (s : State) (c : Choice) :
    (s.takeChoice c).results.monitorPart = s.results.monitorPart := by
  cases c <;> simp [State.takeChoice]

@[simp] theorem State.chooseLoop_monitorPart (fuel : Nat) (s : State) :
    (s.chooseLoop fuel).results.monitorPart = s.results.monitorPart := by
  induction fuel generalizing s with
  | zero => rfl
  | succ fuel ih =>
    unfold State.chooseLoop
    split
    · rfl
    · simp only
      split <;> simp [ih]

@[simp] theorem State.parkActive_results (s : State) (j : Job) : (s.parkActive j).results = s.results := rfl

@[simp] theorem State.wakeEngine_monitorPart (s : State) :
    s.wakeEngine.results.monitorPart = s.results.monitorPart := by
  unfold State.wakeEngine
  split
  · rfl
  · simp only
    split
    · simp
    · split <;> simp

@[simp] theorem State.engineOpening_monitorPart (s : State) (p : PortId) :
    (s.engineOpening p).results.monitorPart = s.results.monitorPart := by
  have ended : (s.endActiveOn p).results.monitorPart = s.results.monitorPart := by
    unfold State.endActiveOn
    split <;> simp
  unfold State.engineOpening State.endParkedOn
  split <;> simp [ended]

@[simp] theorem State.resumeSurvey_monitorPart (s : State) :
    s.resumeSurvey.results.monitorPart = s.results.monitorPart := by
  unfold State.resumeSurvey State.resumeWork
  split <;> simp

@[simp] theorem State.stopSurvey_monitorPart (s : State) :
    s.stopSurvey.results.monitorPart = s.results.monitorPart := by
  have active : ∀ t : State, t.discardActiveSurvey.results.monitorPart = t.results.monitorPart := fun t => by
    unfold State.discardActiveSurvey
    split
    · rfl
    · split <;> simp
  have parked : ∀ t : State, t.discardParkedSurvey.results.monitorPart = t.results.monitorPart := fun t => by
    unfold State.discardParkedSurvey
    split
    · rfl
    · split <;> simp
  simp [State.stopSurvey, active, parked]

@[simp] theorem State.queueSpot_monitorPart (s : State) (r : SpotRequest) :
    (s.queueSpot r).results.monitorPart = s.results.monitorPart :=
  State.wakeEngine_monitorPart _

@[simp] theorem State.cancelSpots_monitorPart (s : State) (tag : Byte) :
    (s.cancelSpots tag).results.monitorPart = s.results.monitorPart :=
  State.wakeEngine_monitorPart _

@[simp] theorem State.symbolStart_monitorPart (s : State) (p : PortId) :
    (s.symbolStart p).results.monitorPart = s.results.monitorPart := by
  unfold State.symbolStart
  split
  · rfl
  · split
    · split
      · rfl
      · split <;> simp
    · rfl

@[simp] theorem State.quietGateClosed_results (s : State) (p : PortId) :
    (s.quietGateClosed p).results = s.results := by
  unfold State.quietGateClosed
  split
  · rfl
  · split <;> rfl

@[simp] theorem State.symbolCut_monitorPart (s : State) (p : PortId) :
    (s.symbolCut p).results.monitorPart = s.results.monitorPart := by
  have discarded : (s.discardSample p).results = s.results := by
    unfold State.discardSample
    split
    · rfl
    · split <;> rfl
  simp [State.symbolCut, discarded]

/-! ## Switches and reactions -/

@[simp] theorem State.openSwitch_monitorPart (s : State) (p : PortId) :
    (s.openSwitch p).results.monitorPart = s.results.monitorPart :=
  State.engineOpening_monitorPart _ p

@[simp] theorem State.isolatePort_monitorPart (s : State) (p : PortId) (cause : IsolationCause) :
    (s.isolatePort p cause).results.monitorPart = s.results.monitorPart := by
  unfold State.isolatePort
  simp only
  split <;> simp

@[simp] theorem State.joinPort_results (s : State) (p : PortId) : (s.joinPort p).results = s.results := by
  unfold State.joinPort
  split <;> rfl

/-- No action of R131 reaches a monitor. -/
@[simp] theorem State.performAction_monitorPart (s : State) (i : EntryId) (c : ReactionConfig)
    (trigger : Option PortId) : (s.performAction i c trigger).1.results.monitorPart = s.results.monitorPart := by
  unfold State.performAction
  cases c.action with
  | isolate | rejoin | notify => simp only; split <;> simp
  | spot =>
    simp only
    split
    · split <;> simp
    · rfl
  | surveyHold | surveyResume => simp only; split <;> simp

@[simp] theorem State.recordFiring_results (s : State) (i : EntryId) (e : ReactionEntry) (outcome : FireOutcome) :
    (s.recordFiring i e outcome).results = s.results := rfl

@[simp] theorem State.reportOutcome_results (s : State) (outcome : FireOutcome) :
    (s.reportOutcome outcome).results = s.results := by
  cases outcome <;> simp [State.reportOutcome]

@[simp] theorem State.offerTo_monitorPart (o : Occurrence) (s : State) (i : EntryId) :
    (State.offerTo o s i).results.monitorPart = s.results.monitorPart := by
  unfold State.offerTo
  split
  · rfl
  · split <;> simp [State.fire]

@[simp] theorem State.react_monitorPart (s : State) (o : Occurrence) :
    (s.react o).results.monitorPart = s.results.monitorPart := by
  unfold State.react
  induction indexes 24 generalizing s with
  | nil => rfl
  | cons i is ih => rw [List.foldl_cons, ih, State.offerTo_monitorPart]

/-- An occurrence, with all that it sets off, leaves the monitors. -/
@[simp] theorem State.raise_monitorPart (s : State) (o : Occurrence) :
    (s.raise o).results.monitorPart = s.results.monitorPart := by
  simp [State.raise]

@[simp] theorem State.raiseAll_monitorPart (s : State) (os : List Occurrence) :
    (s.raiseAll os).results.monitorPart = s.results.monitorPart := by
  unfold State.raiseAll
  induction os generalizing s with
  | nil => rfl
  | cons o os ih => rw [List.foldl_cons, ih, State.raise_monitorPart]

@[simp] theorem State.failProbe_monitorPart (s : State) (p : PortId) (tripped : Bool) :
    (s.failProbe p tripped).results.monitorPart = s.results.monitorPart := by
  simp [State.failProbe, State.retryStep]

/-- A probe is tested by no monitor (R97). -/
@[simp] theorem State.judgeProbe_monitorPart (s : State) (p : PortId) (value : Nat) :
    (s.judgeProbe p value).results.monitorPart = s.results.monitorPart := by
  unfold State.judgeProbe
  split
  · unfold State.probeVerdict
    split <;> simp
  · rfl

@[simp] theorem State.overcurrent_monitorPart (s : State) (p : PortId) :
    (s.overcurrent p).results.monitorPart = s.results.monitorPart := by
  unfold State.overcurrent
  split <;> simp [State.tripJoined]

@[simp] theorem State.conditionChanged_monitorPart (s : State) (p : PortId) (entered : Option Condition) :
    (s.conditionChanged p entered).results.monitorPart = s.results.monitorPart := by
  simp [State.conditionChanged]

/-! ## The host link and the passing of time -/

@[simp] theorem State.elapse_results (s : State) (d : Nat) : (s.elapse d).results = s.results := rfl

@[simp] theorem State.arbitrate_monitorPart (s : State) :
    s.arbitrate.results.monitorPart = s.results.monitorPart := by
  rw [s.arbitrate_eq]
  rfl

@[simp] theorem State.returnSent_monitorPart (s : State) :
    s.returnSent.results.monitorPart = s.results.monitorPart := rfl

@[simp] theorem State.acknowledge_monitorPart (s : State) (seq : Byte) :
    (s.acknowledge seq).results.monitorPart = s.results.monitorPart := rfl

@[simp] theorem State.enterLost_monitorPart (s : State) :
    s.enterLost.results.monitorPart = s.results.monitorPart := by
  simp [State.enterLost]

@[simp] theorem State.ackTimeoutExpires_monitorPart (s : State) :
    s.ackTimeoutExpires.results.monitorPart = s.results.monitorPart := by
  unfold State.ackTimeoutExpires
  split <;> simp

@[simp] theorem State.takeAck_monitorPart (s : State) (seq : Byte) (payload : List Byte) :
    (s.takeAck seq payload).results.monitorPart = s.results.monitorPart := by
  unfold State.takeAck
  simp only
  split
  · rfl
  · split <;> simp

end Sys2Proof.Machine
end

section
/-! The law of ALERT (R103) where the monitors change, which is with an OK result, with MONITOR_SET and at a reset; and
the law under every command. -/
namespace Sys2Proof.Machine

/-! ## The law -/

/-- The reassessed level is high exactly where an alert-enabled monitor has a guarded port OUTSIDE. -/
theorem alertLevel_eq_true_iff (monitors : Vector Monitor 12) :
    alertLevel monitors = true ↔
      ∃ m : Fin 12, ∃ p : PortId,
        monitors[m].alertEnable = true ∧ monitors[m].guarded.getLsbD p.val = true ∧
          monitors[m].ports[p].outside = true := by
  have guarded : ∀ m : Monitor,
      ((m.alertEnable && (indexes 8).any fun (p : PortId) => m.guarded.getLsbD p.val && m.ports[p].outside) = true ↔
        ∃ p : PortId, m.alertEnable = true ∧ m.guarded.getLsbD p.val = true ∧ m.ports[p].outside = true) := by
    intro m
    simp only [Bool.and_eq_true, List.any_eq_true, mem_indexes, true_and, exists_and_left]
  unfold alertLevel
  simp only [List.any_eq_true, guarded, Vector.mem_toList_iff, Vector.mem_iff_getElem]
  constructor
  · rintro ⟨_, ⟨i, hi, rfl⟩, outside⟩
    exact ⟨⟨i, hi⟩, outside⟩
  · rintro ⟨m, outside⟩
    exact ⟨_, ⟨m.val, m.isLt, rfl⟩, outside⟩

/-- ALERT follows the monitors where the pin stands at the level that a reassessment gives. -/
theorem State.alertLaw_iff (s : State) : s.AlertLaw ↔ s.results.alert = alertLevel s.results.monitors := by
  unfold State.AlertLaw
  rw [← alertLevel_eq_true_iff]
  exact Bool.eq_iff_iff.symm

/-- The law reads the monitors and the pin alone. -/
theorem State.AlertLaw.congr {s t : State} (l : s.AlertLaw)
    (h : t.results.monitorPart = s.results.monitorPart) : t.AlertLaw := by
  obtain ⟨monitors, alert⟩ := Prod.mk.inj h
  rw [State.alertLaw_iff] at l ⊢
  rw [monitors, alert, l]

/-- A pin just reassessed obeys the law, whatever it was. -/
theorem State.alertLaw_of_updateAlert {s : State} {u : Results}
    (h : s.results.monitorPart = u.updateAlert.monitorPart) : s.AlertLaw := by
  obtain ⟨monitors, alert⟩ := Prod.mk.inj h
  rw [State.alertLaw_iff, monitors, alert]
  rfl

/-- With every port INSIDE a low pin obeys the law (R104). -/
theorem State.alertLaw_of_inside {s : State} (low : s.results.alert = false)
    (inside : ∀ (m : Fin 12) (p : PortId), s.results.monitors[m].ports[p].outside = false) : s.AlertLaw := by
  refine iff_of_false (by simp [low]) ?_
  rintro ⟨m, p, -, -, outside⟩
  exact Bool.false_ne_true ((inside m p).symm.trans outside)

/-- A full reset leaves every port INSIDE and ALERT low (R104). -/
theorem State.atReset_alertLaw (straps : Straps) (powerGood : Vector Bool 8) (lines : Vector Level 8) :
    (State.atReset straps powerGood lines).AlertLaw :=
  State.alertLaw_of_inside rfl fun m p => by
    simp [State.atReset, Results.atReset, Monitor.atReset, MonitorPort.inside]

/-- So does a soft reset (R104). -/
theorem State.resetBlocks_alertLaw (s : State) : s.resetBlocks.AlertLaw :=
  State.alertLaw_of_inside rfl fun m p => by
    simp [State.resetBlocks, Results.softReset, Monitor.allInside, MonitorPort.inside]

/-! ## Completions -/

/-- A tested result reassesses ALERT with the monitors (R86, R103). -/
theorem State.AlertLaw.handleResult {s : State} (l : s.AlertLaw) (c : Completion) : (s.handleResult c).1.AlertLaw := by
  have handled := s.handleResult_monitorPart c
  unfold Results.test at handled
  split at handled
  · exact l.congr (handled.trans (Results.takeId_monitorPart ..))
  · exact State.alertLaw_of_updateAlert handled

theorem State.AlertLaw.deliverOk {s : State} (l : s.AlertLaw) (j : Job) : (s.deliverOk j).AlertLaw := by
  unfold State.deliverOk
  simp only
  split
  · exact l.congr (s.judgeProbe_monitorPart _ _)
  · exact (l.handleResult _).congr (State.raiseAll_monitorPart _ _)
  · exact (l.handleResult _).congr (State.raiseAll_monitorPart _ _)

theorem State.AlertLaw.completeOk {s : State} (l : s.AlertLaw) (j : Job) : (s.completeOk j).AlertLaw := by
  have handing : ((s.setActive none).setHandingOver true).AlertLaw := l.congr rfl
  exact (handing.deliverOk j).congr (by simp [State.completeOk])

theorem State.AlertLaw.afterSample {s : State} (l : s.AlertLaw) (j onward : Job) :
    (s.afterSample j onward).AlertLaw := by
  unfold State.afterSample
  split
  · exact l.completeOk j
  · exact l.congr rfl

theorem State.AlertLaw.judgeSample {s : State} (l : s.AlertLaw) (p : PortId) (c : SymClass) (code : Code) :
    (s.judgeSample p c code).AlertLaw := by
  unfold State.judgeSample
  split
  · exact l
  · split
    · split
      · exact l
      · exact l
      · split
        · exact l.afterSample _ _
        · exact l.congr rfl
    · exact l

theorem State.AlertLaw.deliverSymbol {s : State} (l : s.AlertLaw) (p : PortId) (first second : Level) (code : Code) :
    (s.deliverSymbol p first second code).AlertLaw := by
  unfold State.deliverSymbol
  simp only
  generalize (s.port p).deliver _ _ _ = delivered
  have raised : ((s.modPort p fun _ => delivered.1).raiseAll delivered.2).AlertLaw := l.congr (by simp)
  exact (raised.judgeSample p ((s.port p).tap.classInProgress first second) code).congr
    (by simp [State.symbolBoundary])

/-! ## Requests -/

/-- A request either is carried out whole or changes nothing (R182). -/
theorem State.AlertLaw.validated {s : State} (l : s.AlertLaw) (checks : List Check) (c : State × List Byte)
    (h : c.1.AlertLaw) : (validated checks s c).1.AlertLaw := by
  unfold Machine.validated
  split
  · exact l
  · exact h

/-- A request that leaves the monitors. -/
theorem State.AlertLaw.validated_of_monitorPart {s : State} (l : s.AlertLaw) (checks : List Check)
    (c : State × List Byte) (h : c.1.results.monitorPart = s.results.monitorPart) :
    (Machine.validated checks s c).1.AlertLaw :=
  l.validated checks c (l.congr h)

/-- MONITOR_SET reassesses ALERT (R101). -/
theorem State.AlertLaw.answerMonitorSet {s : State} (l : s.AlertLaw) (payload : List Byte) :
    (answerMonitorSet payload s).1.AlertLaw :=
  l.validated _ _ (State.alertLaw_of_updateAlert rfl)

theorem State.AlertLaw.answerCounts {s : State} (l : s.AlertLaw) (payload : List Byte) :
    (answerCounts payload s).1.AlertLaw := by
  refine l.validated_of_monitorPart _ _ ?_
  simp only
  split <;> rfl

theorem State.AlertLaw.answerRequest {s : State} (l : s.AlertLaw) (kind tag : Byte) (payload : List Byte) :
    (answerRequest kind tag payload s).1.AlertLaw := by
  unfold Machine.answerRequest
  split
  -- COUNTS, MONITOR_SET and the unknown KIND; every other request leaves the monitors.
  case h_8 => exact l.answerCounts payload
  case h_17 => exact l.answerMonitorSet payload
  case h_25 => exact l
  all_goals
    refine l.validated_of_monitorPart _ _ ?_
    simp [State.openSession, State.portSet, State.switchReply]

theorem State.AlertLaw.execute {s : State} (l : s.AlertLaw) (kind tag : Byte) (payload : List Byte) :
    (s.execute kind tag payload).AlertLaw := by
  unfold State.execute
  split
  · split <;> exact l.congr rfl
  · split
    · exact (l.answerRequest kind tag payload).congr rfl
    · exact l.congr rfl

theorem State.AlertLaw.takeRequest {s : State} (l : s.AlertLaw) (kind tag : Byte) (payload : List Byte) :
    (s.takeRequest kind tag payload).AlertLaw := by
  have arrived : s.frameArrives.AlertLaw := l.congr rfl
  unfold State.takeRequest
  simp only
  split
  · exact arrived.congr rfl
  · exact arrived.execute kind tag payload

theorem State.AlertLaw.takeFrame {s : State} (l : s.AlertLaw) (body : List Byte) : (s.takeFrame body).AlertLaw := by
  unfold State.takeFrame
  split
  · split
    · exact l.congr (s.takeAck_monitorPart _ _)
    · exact l.takeRequest _ _ _
  · exact l
  · exact l

theorem State.AlertLaw.receiveByte {s : State} (l : s.AlertLaw) (byte : Byte) (framingOk : Bool) :
    (s.receiveByte byte framingOk).AlertLaw := by
  unfold State.receiveByte
  split
  · exact l.congr rfl
  · exact l.congr rfl
  · exact l.takeFrame _

/-! ## Soft reset -/

theorem State.AlertLaw.executeHeld {s : State} (l : s.AlertLaw) (held : List HeldFrame) :
    (executeHeld held s).AlertLaw := by
  induction held generalizing s with
  | nil => exact l
  | cons f rest ih =>
    unfold Machine.executeHeld
    split
    · exact l.congr rfl
    · exact ih (l.execute f.kind f.tag f.payload)

/-- A soft reset sets the law up, and the held requests keep it (R104, R174). -/
theorem State.softReset_alertLaw (s : State) : s.softReset.AlertLaw :=
  s.resetBlocks_alertLaw.executeHeld _

theorem State.AlertLaw.frameLeaves {s : State} (l : s.AlertLaw) (f : LineFrame) : (s.frameLeaves f).AlertLaw := by
  unfold State.frameLeaves
  split
  · exact s.softReset_alertLaw
  · split <;> exact l.congr rfl

/-! ## Commands -/

/-- Where a command answers with a next state, ALERT follows the monitors in it. -/
def AlertAfter (o : Host.Outcome State Fault Refusal) : Prop := ∀ t, o = .next t → t.AlertLaw

theorem AlertAfter.next {s : State} (l : s.AlertLaw) : AlertAfter (.next s) := by
  rintro t ⟨⟩
  exact l

/-- The output arbiter leaves the monitors. -/
theorem AlertAfter.answered {s : State} (l : s.AlertLaw) : AlertAfter s.answered :=
  .next (l.congr s.arbitrate_monitorPart)

section Commands

variable {s : State}

theorem execLineTransition_alertLaw (l : s.AlertLaw) (p : PortId) (source target : Level) (offset : Nat) :
    AlertAfter (execLineTransition p source target offset s) := by
  unfold execLineTransition
  split
  · exact .next l
  · split
    · simp only
      split
      · split
        · exact .answered (l.congr (by simp [State.elapseTo]))
        · exact .next (l.congr rfl)
      · exact .next (l.congr rfl)
    · exact .next (l.congr rfl)

theorem execSymbolDelivery_alertLaw (l : s.AlertLaw) (p : PortId) (first second : Level) (code : Code) :
    AlertAfter (execSymbolDelivery p first second code s) := by
  have elapsed : (s.elapseTo p symbolTicks).AlertLaw := l.congr rfl
  unfold execSymbolDelivery
  split
  · exact .answered (elapsed.deliverSymbol p first second code)
  · exact .next l

theorem execPowerSenseChange_alertLaw (l : s.AlertLaw) (p : PortId) (good : Bool) :
    AlertAfter (execPowerSenseChange p good s) := by
  unfold execPowerSenseChange
  split
  · exact .next l
  · exact .next (l.congr rfl)

theorem execSenseTimerExpiry_alertLaw (l : s.AlertLaw) (p : PortId) : AlertAfter (execSenseTimerExpiry p s) := by
  unfold execSenseTimerExpiry
  split
  · exact .next l
  · exact .answered (l.congr (by simp))

theorem execDrainExpiry_alertLaw (l : s.AlertLaw) (p : PortId) : AlertAfter (execDrainExpiry p s) := by
  unfold execDrainExpiry
  split
  · exact .next l
  · exact .next (l.congr rfl)

theorem execBudgetWindowExpiry_alertLaw (l : s.AlertLaw) (p : PortId) : AlertAfter (execBudgetWindowExpiry p s) := by
  unfold execBudgetWindowExpiry
  split
  · exact .next l
  · exact .next (l.congr rfl)

theorem execDwellStep_alertLaw (l : s.AlertLaw) (p : PortId) : AlertAfter (execDwellStep p s) := by
  unfold execDwellStep
  split
  · exact .answered (l.congr (by simp))
  · exact .next l

theorem execHoldTimerExpiry_alertLaw (l : s.AlertLaw) (p : PortId) : AlertAfter (execHoldTimerExpiry p s) := by
  unfold execHoldTimerExpiry
  split
  case h_1 => exact .next (l.congr rfl)
  all_goals exact .next l

theorem execSettleTimerExpiry_alertLaw (l : s.AlertLaw) (p : PortId) : AlertAfter (execSettleTimerExpiry p s) := by
  unfold execSettleTimerExpiry
  split
  case h_1 => exact .answered (l.congr (by simp))
  all_goals exact .next l

theorem execEngineSettleEnd_alertLaw (l : s.AlertLaw) : AlertAfter (execEngineSettleEnd s) := by
  unfold execEngineSettleEnd
  split
  · exact .next l
  · split
    · exact .answered (l.congr (by simp))
    · exact .next l
    · exact .next l

theorem execSampleEnd_alertLaw (l : s.AlertLaw) (code : Code) : AlertAfter (execSampleEnd code s) := by
  unfold execSampleEnd
  split
  · exact .next l
  · split
    case h_1 left _ _ =>
      have elapsed : (s.elapse left).AlertLaw := l.congr rfl
      exact .answered (elapsed.afterSample _ _)
    all_goals exact .next l

theorem execGateTimeout_alertLaw (l : s.AlertLaw) : AlertAfter (execGateTimeout s) := by
  unfold execGateTimeout
  split
  · exact .next l
  · split
    · exact .answered (l.congr (by simp))
    · exact .next l
    · exact .next l

theorem execPassFloorExpiry_alertLaw (l : s.AlertLaw) : AlertAfter (execPassFloorExpiry s) := by
  unfold execPassFloorExpiry
  split
  · simp only
    split
    · exact .answered (l.congr (by simp))
    · exact .next (l.congr rfl)
    · exact .next (l.congr rfl)
  · exact .next l

theorem execPaceTick_alertLaw (l : s.AlertLaw) : AlertAfter (execPaceTick s) := by
  unfold execPaceTick
  split
  · exact .next l
  · exact .answered (l.congr (by simp))

theorem execHoldbackExpiry_alertLaw (l : s.AlertLaw) (entry : EntryId) : AlertAfter (execHoldbackExpiry entry s) := by
  unfold execHoldbackExpiry
  split
  · exact .next l
  · exact .next (l.congr rfl)

theorem execGapTimerExpiry_alertLaw (l : s.AlertLaw) : AlertAfter (execGapTimerExpiry s) := by
  unfold execGapTimerExpiry
  split
  case h_2 | h_3 | h_4 => exact .next (l.congr rfl)
  all_goals exact .next l

theorem execFrameSent_alertLaw (l : s.AlertLaw) : AlertAfter (execFrameSent s) := by
  unfold execFrameSent
  split
  · exact .next l
  · exact .answered (l.frameLeaves _)

theorem execAckTimerExpiry_alertLaw (l : s.AlertLaw) : AlertAfter (execAckTimerExpiry s) := by
  unfold execAckTimerExpiry
  split
  case h_1 => exact .answered (l.congr (by simp))
  all_goals exact .next l

theorem execLinkWatchdogExpiry_alertLaw (l : s.AlertLaw) : AlertAfter (execLinkWatchdogExpiry s) := by
  unfold execLinkWatchdogExpiry
  split
  case h_1 => exact .answered (l.congr (by simp))
  all_goals exact .next l

theorem execFullReset_alertLaw (straps : Straps) (s : State) : AlertAfter (execFullReset straps s) :=
  .next ((State.atReset_alertLaw straps (vmap (·.powerGood) s.ports) (vmap (·.line) s.ports)).congr rfl)

theorem execSoftReset_alertLaw (l : s.AlertLaw) : AlertAfter (execSoftReset s) := by
  unfold execSoftReset
  split
  · exact .answered s.softReset_alertLaw
  · exact .next l

/-- Every command keeps ALERT with the monitors (R103). -/
theorem exec_alertLaw (l : s.AlertLaw) (c : Instr) : AlertAfter (exec c s) := by
  cases c with
  | fullReset straps => exact execFullReset_alertLaw straps s
  | softReset => exact execSoftReset_alertLaw l
  | lineTransition p source target offset => exact execLineTransition_alertLaw l p source target offset
  | symbolDelivery p first second code => exact execSymbolDelivery_alertLaw l p first second code
  | powerSenseChange p good => exact execPowerSenseChange_alertLaw l p good
  | senseTimerExpiry p => exact execSenseTimerExpiry_alertLaw l p
  | drainExpiry p => exact execDrainExpiry_alertLaw l p
  | budgetWindowExpiry p => exact execBudgetWindowExpiry_alertLaw l p
  | dwellStep p => exact execDwellStep_alertLaw l p
  | overcurrentTrip p => exact .answered (l.congr (s.overcurrent_monitorPart p))
  | holdTimerExpiry p => exact execHoldTimerExpiry_alertLaw l p
  | settleTimerExpiry p => exact execSettleTimerExpiry_alertLaw l p
  | jobStart => exact .answered (l.congr s.wakeEngine_monitorPart)
  | engineSettleEnd => exact execEngineSettleEnd_alertLaw l
  | sampleEnd code => exact execSampleEnd_alertLaw l code
  | gateTimeout => exact execGateTimeout_alertLaw l
  | passFloorExpiry => exact execPassFloorExpiry_alertLaw l
  | paceTick => exact execPaceTick_alertLaw l
  | holdbackExpiry entry => exact execHoldbackExpiry_alertLaw l entry
  | gapTimerExpiry => exact execGapTimerExpiry_alertLaw l
  | frameDiscard => exact .next (l.congr rfl)
  | unknownKind kind tag payload => exact .answered (l.takeFrame _)
  | ack seq payload => exact .answered (l.congr (s.takeAck_monitorPart seq payload))
  | frameSent => exact execFrameSent_alertLaw l
  | ackTimerExpiry => exact execAckTimerExpiry_alertLaw l
  | linkWatchdogExpiry => exact execLinkWatchdogExpiry_alertLaw l
  | byteReceived byte framingOk => exact .answered (l.receiveByte byte framingOk)
  | hello tag payload | status tag payload | reset tag payload | portSet tag payload | portGet tag payload
  | portJoin tag payload | portIsolate tag payload | counts tag payload | surveyPut tag payload
  | surveyGet tag payload | surveyRun tag payload | surveyHold tag payload | surveyResume tag payload
  | surveyStop tag payload | spot tag payload | spotCancel tag payload | monitorSet tag payload
  | monitorGet tag payload | reactionSet tag payload | reactionGet tag payload | reactionArm tag payload
  | summaryGet tag payload | summaryClear tag payload | notifyMask tag payload =>
    exact .answered (l.takeRequest _ tag payload)

end Commands

/-- A step keeps ALERT with the monitors: the command in front runs on the queue's rest, and the tick of an empty queue
leaves the result unit. -/
theorem step_alertLaw {s t : State} (l : s.AlertLaw) (h : step s = .next t) : t.AlertLaw := by
  unfold step at h
  split at h
  · cases h
    exact l.congr rfl
  · next c rest _ =>
    have waiting : ({ s with pending := rest } : State).AlertLaw := l.congr rfl
    exact exec_alertLaw waiting c t h

end Sys2Proof.Machine
end

section
/-! The ALERT byte of the STATUS reply (R103, R105, 10.7), and the obligation assembled. -/
namespace Sys2Proof.Machine

/-- A number takes its width in bytes (R177). -/
@[simp] theorem le_length (width v : Nat) : (le width v).length = width := by
  induction width generalizing v with
  | zero => rfl
  | succ width ih => simp [le, ih]

@[simp] theorem activeBytes_length (j : Option Job) : (activeBytes j).length = 9 := by
  cases j <;> simp [activeBytes]

@[simp] theorem parkedBytes_length (j : Option Job) : (parkedBytes j).length = 4 := by
  cases j <;> simp [parkedBytes]

@[simp] theorem State.surveyBytes_length (s : State) : s.surveyBytes.length = 13 := by
  unfold State.surveyBytes
  cases s.stallSlot <;> simp

@[simp] theorem State.spotBytes_length (s : State) : s.spotBytes.length = 3 := by
  unfold State.spotBytes
  cases s.spots <;> simp

@[simp] theorem resultUnitBytes_length (u : Results) : (resultUnitBytes u).length = 9 := by
  simp [resultUnitBytes]

/-- ALERT stands behind the counts and the next id in the result unit's part (R105). -/
theorem resultUnitBytes_alert (u : Results) : (resultUnitBytes u)[6]'(by simp) = flagByte u.alert := by
  simp [resultUnitBytes]

/-- The result unit's part begins at offset 33 of STATUS (10.7). -/
theorem State.statusBytes_alert (s : State) : s.statusBytes[39]? = some (flagByte s.results.alert) := by
  simp [State.statusBytes, List.getElem?_append, resultUnitBytes_alert]

/-- Settles O34: the full reset sets the law up, every step keeps it, and STATUS carries the pin. -/
theorem alertFollowsMonitors : Obligations.AlertFollowsMonitors :=
  ⟨State.atReset_alertLaw, fun _ _ => step_alertLaw, State.statusBytes_alert⟩

end Sys2Proof.Machine
end

section
/-! The taking of a flagged occurrence (R145 to R147, R152): how a record's notes grow, which record an admitted
occurrence goes into, and what the summary unit holds afterwards. -/
namespace Sys2Proof.Machine

/-! ## Notes -/

theorem mem_insertNote (n k : Nat) (notes : List Nat) : k ∈ insertNote n notes ↔ k = n ∨ k ∈ notes := by
  induction notes with
  | nil => simp [insertNote]
  | cons m rest ih =>
    unfold insertNote
    split
    case isTrue => simp
    case isFalse =>
      split
      case isTrue heq => simp [heq]
      case isFalse => simp [ih, or_left_comm]

/-- An index joins an ascending list in its place, and an index that is there already is not repeated. -/
theorem insertNote_ascending (n : Nat) {notes : List Nat} (h : notes.Pairwise (· < ·)) :
    (insertNote n notes).Pairwise (· < ·) := by
  induction notes with
  | nil => simp [insertNote]
  | cons m rest ih =>
    obtain ⟨above, ascending⟩ := List.pairwise_cons.mp h
    unfold insertNote
    split
    case isTrue below =>
      refine List.pairwise_cons.mpr ⟨?_, h⟩
      rintro k (_ | ⟨_, hk⟩)
      · exact below
      · exact below.trans (above k hk)
    case isFalse notBelow =>
      split
      case isTrue => exact h
      case isFalse hne =>
        refine List.pairwise_cons.mpr ⟨fun k hk => ?_, ih ascending⟩
        rcases (mem_insertNote n k rest).mp hk with rfl | hk
        · omega
        · exact above k hk

theorem mem_addNote (note : Option Nat) (k : Nat) (notes : List Nat) :
    k ∈ addNote note notes ↔ k ∈ notes ∨ k ∈ note.toList := by
  cases note with
  | none => simp [addNote]
  | some n => simp [addNote, mem_insertNote, or_comm]

theorem addNote_ascending (note : Option Nat) {notes : List Nat} (h : notes.Pairwise (· < ·)) :
    (addNote note notes).Pairwise (· < ·) := by
  cases note with
  | none => exact h
  | some n => exact insertNote_ascending n h

theorem addNote_nil (note : Option Nat) : addNote note [] = note.toList := by
  cases note <;> rfl

/-! ## The record that an occurrence goes into -/

/-- The record of `source` that can still take an occurrence (R152). -/
abbrev EventRec.WaitsFor (source : SourceId) (e : EventRec) : Prop := e.source = source ∧ e.send = .waiting

/-- The record after an occurrence has joined it (R152). -/
def EventRec.join (flag : FlagId) (note : Option Nat) (stamp : Word32) (e : EventRec) : EventRec :=
  { e with flags := e.flags ||| flagBit flag, newest := stamp, notes := addNote note e.notes }

/-- The record that an occurrence makes (R152). -/
def EventRec.fresh (now : Word32) (source : SourceId) (flag : FlagId) (note : Option Nat) (stamp : Word32) : EventRec :=
  { source := source, flags := flagBit flag, newest := stamp, notes := note.toList, created := now, send := .waiting }

theorem joinWaiting_of_none_waits {source : SourceId} {events : List EventRec}
    (h : ∀ e ∈ events, ¬e.WaitsFor source) (flag : FlagId) (note : Option Nat) (stamp : Word32) :
    joinWaiting source flag note stamp events = none := by
  induction events with
  | nil => rfl
  | cons e rest ih =>
    obtain ⟨he, hrest⟩ := List.forall_mem_cons.mp h
    rw [joinWaiting, if_neg he, ih hrest, Option.map_none]

/-- The first WAITING record of the source is joined; the records before and behind it stand. -/
theorem joinWaiting_of_first_waits {source : SourceId} {older newer : List EventRec} {e : EventRec}
    (noneOlder : ∀ k ∈ older, ¬k.WaitsFor source) (he : e.WaitsFor source) (flag : FlagId) (note : Option Nat)
    (stamp : Word32) :
    joinWaiting source flag note stamp (older ++ e :: newer) = some (older ++ e.join flag note stamp :: newer) := by
  induction older with
  | nil => exact if_pos he
  | cons k rest ih =>
    obtain ⟨hk, hrest⟩ := List.forall_mem_cons.mp noneOlder
    rw [List.cons_append, joinWaiting, if_neg hk, ih hrest, Option.map_some, List.cons_append]

/-- An event record is all that `recordEvent` writes. -/
theorem recordEvent_eq (now : Word32) (source : SourceId) (flag : FlagId) (note : Option Nat) (u : Summary) :
    recordEvent now source flag note u = { u with events := (recordEvent now source flag note u).events } := by
  unfold recordEvent
  split <;> rfl

theorem recordEvent_events_of_none_waits (now : Word32) {source : SourceId} (flag : FlagId) (note : Option Nat)
    {u : Summary} (h : ∀ e ∈ u.events, ¬e.WaitsFor source) :
    (recordEvent now source flag note u).events = u.events ++ [.fresh now source flag note u.stamp] := by
  simp only [recordEvent, joinWaiting_of_none_waits h, addNote_nil, EventRec.fresh]

theorem recordEvent_events_of_first_waits (now : Word32) {source : SourceId} (flag : FlagId) (note : Option Nat)
    {u : Summary} {older newer : List EventRec} {e : EventRec} (hevents : u.events = older ++ e :: newer)
    (noneOlder : ∀ k ∈ older, ¬k.WaitsFor source) (he : e.WaitsFor source) :
    (recordEvent now source flag note u).events = older ++ e.join flag note u.stamp :: newer := by
  simp only [recordEvent, hevents, joinWaiting_of_first_waits noneOlder he]

/-! ## Rebase, stamp and flag (steps 1 and 2 of R146, R147) -/

/-- The stamp that the next flagged occurrence takes: 1 behind the end of the range. -/
def Summary.nextStamp (u : Summary) : Word32 := if u.stamp = 0xFFFFFFFF then 1 else u.stamp + 1

/-- The summary with an occurrence stamped and its flag set, before its event record. -/
def Summary.stamped (source : SourceId) (flag : FlagId) (u : Summary) : Summary :=
  { u.rebase with stamp := u.rebase.stamp + 1 }.setFlag source flag (u.rebase.stamp + 1)

/-- Whether the occurrence goes into an event record (step 3 of R146). -/
abbrev Summary.Admits (u : Summary) (source : SourceId) (flag : FlagId) : Prop :=
  flag = noteFlag source ∨ u.masks[source].getLsbD flag.val = true

theorem Summary.rebase_masks (u : Summary) : u.rebase.masks = u.masks := by
  unfold Summary.rebase
  split <;> rfl

theorem Summary.rebase_events (u : Summary) : u.rebase.events = u.events := by
  unfold Summary.rebase
  split <;> rfl

theorem Summary.rebase_stamp (u : Summary) : u.rebase.stamp + 1 = u.nextStamp := by
  unfold Summary.rebase Summary.nextStamp
  split <;> rfl

/-- At the end of the stamp's range the set-stamp of every SET flag becomes 0 (R147). -/
theorem Summary.rebase_flags (u : Summary) (i : SourceId) (f : FlagId) :
    u.rebase.flags[i][f] =
      if u.stamp = 0xFFFFFFFF then u.flags[i][f].map fun _ => 0 else u.flags[i][f] := by
  unfold Summary.rebase
  split
  · simp only [get_vmap]
  · rfl

theorem Summary.setFlag_flags (u : Summary) (source i : SourceId) (flag f : FlagId) (stamp : Word32) :
    (u.setFlag source flag stamp).flags[i][f] = if i = source ∧ f = flag then some stamp else u.flags[i][f] := by
  simp only [Summary.setFlag, Fin.getElem_fin, Vector.getElem_set, Fin.val_inj]
  by_cases hi : source = i
  · subst hi
    by_cases hf : flag = f <;> simp [Fin.val_inj, hf, eq_comm]
  · simp [hi, Ne.symm hi]

@[simp] theorem Summary.stamped_stamp (source : SourceId) (flag : FlagId) (u : Summary) :
    (u.stamped source flag).stamp = u.nextStamp := u.rebase_stamp

@[simp] theorem Summary.stamped_masks (source : SourceId) (flag : FlagId) (u : Summary) :
    (u.stamped source flag).masks = u.masks := u.rebase_masks

@[simp] theorem Summary.stamped_events (source : SourceId) (flag : FlagId) (u : Summary) :
    (u.stamped source flag).events = u.events := u.rebase_events

theorem Summary.stamped_flags (source i : SourceId) (flag f : FlagId) (u : Summary) :
    (u.stamped source flag).flags[i][f] =
      if i = source ∧ f = flag then some u.nextStamp
      else if u.stamp = 0xFFFFFFFF then u.flags[i][f].map fun _ => 0 else u.flags[i][f] := by
  rw [Summary.stamped, Summary.setFlag_flags, Summary.rebase_stamp]
  congr 1
  exact u.rebase_flags i f

/-- Stamping leaves the masks, so it does not change what is admitted. -/
theorem Summary.stamped_admits_iff (u : Summary) (source : SourceId) (flag : FlagId) :
    (u.stamped source flag).admits source flag = true ↔ u.Admits source flag := by
  simp [Summary.admits, Summary.Admits]

/-! ## The whole taking -/

section
variable (now : Word32) {source : SourceId} {flag : FlagId} (note : Option Nat) {u : Summary}

theorem Summary.take_of_admits (h : u.Admits source flag) :
    u.take now source flag note = recordEvent now source flag note (u.stamped source flag) :=
  if_pos ((u.stamped_admits_iff source flag).mpr h)

theorem Summary.take_of_not_admits (h : ¬u.Admits source flag) :
    u.take now source flag note = u.stamped source flag :=
  if_neg (mt (u.stamped_admits_iff source flag).mp h)

/-- Stamp, masks and flags do not depend on whether the occurrence is admitted. -/
theorem Summary.take_eq (source : SourceId) (flag : FlagId) (u : Summary) : u.take now source flag note =
    { u.stamped source flag with events := (u.take now source flag note).events } := by
  by_cases h : u.Admits source flag
  · rw [Summary.take_of_admits now note h]
    exact recordEvent_eq ..
  · rw [Summary.take_of_not_admits now note h]

theorem Summary.take_stamp (source : SourceId) (flag : FlagId) (u : Summary) :
    (u.take now source flag note).stamp = u.nextStamp := by
  rw [Summary.take_eq, Summary.stamped_stamp]

theorem Summary.take_masks (source : SourceId) (flag : FlagId) (u : Summary) :
    (u.take now source flag note).masks = u.masks := by
  rw [Summary.take_eq, Summary.stamped_masks]

theorem Summary.take_flags (source i : SourceId) (flag f : FlagId) (u : Summary) :
    (u.take now source flag note).flags[i][f] =
      if i = source ∧ f = flag then some u.nextStamp
      else if u.stamp = 0xFFFFFFFF then u.flags[i][f].map fun _ => 0 else u.flags[i][f] := by
  rw [Summary.take_eq]
  exact u.stamped_flags source i flag f

theorem Summary.take_events_of_not_admits (h : ¬u.Admits source flag) :
    (u.take now source flag note).events = u.events := by
  rw [Summary.take_of_not_admits now note h, Summary.stamped_events]

/-- An admitted occurrence makes a record at the tail where none of its source waits (R152). -/
theorem Summary.take_events_of_none_waits (h : u.Admits source flag) (noneWaits : ∀ e ∈ u.events, ¬e.WaitsFor source) :
    (u.take now source flag note).events = u.events ++ [.fresh now source flag note u.nextStamp] := by
  rw [Summary.take_of_admits now note h, recordEvent_events_of_none_waits now flag note (by simpa using noneWaits)]
  simp only [Summary.stamped_events, Summary.stamped_stamp]

/-- An admitted occurrence joins the oldest record of its source that waits (R152). -/
theorem Summary.take_events_of_first_waits (h : u.Admits source flag) {older newer : List EventRec} {e : EventRec}
    (hevents : u.events = older ++ e :: newer) (noneOlder : ∀ k ∈ older, ¬k.WaitsFor source)
    (he : e.WaitsFor source) :
    (u.take now source flag note).events = older ++ e.join flag note u.nextStamp :: newer := by
  rw [Summary.take_of_admits now note h,
    recordEvent_events_of_first_waits now flag note ((u.stamped_events source flag).trans hevents) noneOlder he,
    Summary.stamped_stamp]

end

/-- A flagged occurrence is taken by the summary alone. -/
theorem State.latch_of_flag {o : Occurrence} {source : SourceId} {flag : FlagId} (s : State)
    (h : o.flag = some (source, flag)) :
    s.latch o = { s with summary := s.summary.take s.timebase source flag o.noteEntry } := by
  simp only [State.latch, h]

theorem State.latch_of_no_flag {o : Occurrence} (s : State) (h : o.flag = none) : s.latch o = s := by
  simp only [State.latch, h]

end Sys2Proof.Machine
end

section
/-! SUMMARY_CLEAR with a stamp above the summary's (R149), and the obligation on occurrences assembled. -/
namespace Sys2Proof.Machine

/-- SUMMARY_CLEAR runs as a request of KIND 0x41. -/
theorem exec_summaryClear (tag : Byte) (payload : List Byte) (s : State) :
    exec (.summaryClear tag payload) s = s.request 0x41 tag payload := rfl

/-- SUMMARY_CLEAR is answered by the summary unit. -/
theorem answerRequest_summaryClear (tag : Byte) (payload : List Byte) (s : State) :
    answerRequest 0x41 tag payload s = answerSummaryClear payload s := rfl

/-- Four bytes at the front of a payload are read back as the number they spell (R177). -/
theorem u32_le_append (v : Word32) (rest : List Byte) : u32 (le 4 v.toNat ++ rest) 0 = v.toNat := by
  have range := v.isLt
  simp only [u32, u16, u8, byteAt, le, List.cons_append, List.nil_append, List.getD_cons_zero, List.getD_cons_succ,
    BitVec.toNat_ofNat]
  omega

/-- With no pairs, a stamp above the summary's is all that fails, at body position 2 (R149, R181). -/
theorem answerSummaryClear_of_stamp_above {payload : List Byte} {s : State} (length : payload.length = 5)
    (noPairs : u8 payload 4 = 0) (above : s.summary.stamp.toNat < u32 payload 0) :
    answerSummaryClear payload s = (s, .refused .range (BitVec.ofNat 8 2)) := by
  have fails : ¬u32 payload 0 ≤ s.summary.stamp.toNat := Nat.not_le.mpr above
  unfold answerSummaryClear
  apply validated_of_fails
  simp [summaryClearChecks, summaryClearLength, firstFailure, lengthCheck, rangeCheck, length, noPairs, fails]

/-- Settles O45: the stamp at the two resets, the occurrence without a flag, the taking of a flagged one clause by
clause, and the refused clear. -/
theorem occurrencesAreLatched : Obligations.OccurrencesAreLatched := by
  refine ⟨fun straps s t => ?fullReset, fun s => rfl, fun o s => s.latch_of_no_flag, fun o source flag s hflag => ?taken,
    fun tag stampS s hexec above => ?refused⟩
  case fullReset =>
    rintro ⟨⟩
    rfl
  case taken =>
    refine ⟨_, s.latch_of_flag hflag, Summary.take_stamp .., Summary.take_masks .., fun i f => Summary.take_flags ..,
      fun refused => Summary.take_events_of_not_admits _ _ refused,
      fun admitted noneWaits => Summary.take_events_of_none_waits _ _ admitted noneWaits, ?joined⟩
    intro older newer e admitted hevents noneOlder hsource hwaiting
    exact ⟨addNote o.noteEntry e.notes,
      Summary.take_events_of_first_waits _ _ admitted hevents noneOlder ⟨hsource, hwaiting⟩,
      addNote_ascending _, fun n => mem_addNote ..⟩
  case refused =>
    exact refuses_of_executes (exec_summaryClear ..) hexec
      ((answerRequest_summaryClear ..).trans
        (answerSummaryClear_of_stamp_above rfl rfl (above.trans_eq (u32_le_append ..).symm)))

end Sys2Proof.Machine
end

section
/-! Predicates that the engine, the switches and the reactions cannot touch: what depends on the summary, the result
queue, the host link, the command queue and the mark of a hand-over alone, and stands through a latch and a hand-over, stands through every
operation of chapters 3 to 7. -/
namespace Sys2Proof.Machine

/-- `P` depends on the summary, the result queue, the link, the command queue and the mark of a hand-over alone, and the
latching of an occurrence and the hand-over of a completion keep it. -/
structure Inert (P : State → Prop) : Prop where
  frame : ∀ {s t : State}, P s → t.summary = s.summary → t.results.queue = s.results.queue → t.link = s.link →
    t.pending = s.pending → t.engine.handingOver = s.engine.handingOver → P t
  latch : ∀ {s : State} (o : Occurrence), P s → P (s.latch o)
  handleResult : ∀ {s : State} (c : Completion), P s → P (s.handleResult c).1

/-- Occurrences are handed on one after another. -/
theorem State.raiseAll_cons (s : State) (o : Occurrence) (os : List Occurrence) :
    s.raiseAll (o :: os) = (s.raise o).raiseAll os := by
  simp only [State.raiseAll, List.foldl_cons]

namespace Inert

variable {P : State → Prop} {s : State}

theorem latchAll (k : Inert P) (os : List Occurrence) (h : P s) : P (s.latchAll os) := by
  induction os generalizing s with
  | nil => exact h
  | cons o os ih => exact ih (k.latch o h)

/-! ## Jobs -/

theorem discardProbe (k : Inert P) (p : PortId) (h : P s) : P (s.discardProbe p) := by
  unfold State.discardProbe
  split
  · exact k.frame h rfl rfl rfl rfl rfl
  · exact h

theorem deliverUntested (k : Inert P) (j : Job) (status : JobStatus) (h : P s) : P (s.deliverUntested j status) := by
  unfold State.deliverUntested
  split
  · exact k.discardProbe _ h
  · exact k.latchAll _ (k.handleResult _ h)
  · exact k.latchAll _ (k.handleResult _ h)

theorem setActive (k : Inert P) (j : Option Job) (h : P s) : P (s.setActive j) := k.frame h rfl rfl rfl rfl rfl

theorem setParked (k : Inert P) (j : Option Job) (h : P s) : P (s.setParked j) := k.frame h rfl rfl rfl rfl rfl

theorem modPort (k : Inert P) (p : PortId) (f : Port → Port) (h : P s) : P (s.modPort p f) := k.frame h rfl rfl rfl rfl rfl

theorem endActive (k : Inert P) (status : JobStatus) (h : P s) : P (s.endActive status) := by
  unfold State.endActive
  split
  · exact h
  · exact k.deliverUntested _ _ (k.setActive _ h)

theorem endParked (k : Inert P) (status : JobStatus) (h : P s) : P (s.endParked status) := by
  unfold State.endParked
  split
  · exact h
  · exact k.deliverUntested _ _ (k.setParked _ h)

theorem enterGated (k : Inert P) (j : Job) (h : P s) : P (s.enterGated j) := by
  unfold State.enterGated
  split
  · exact k.endActive _ (k.setActive _ h)
  · exact k.setActive _ h

theorem settled (k : Inert P) (j : Job) (h : P s) : P (s.settled j) := by
  unfold State.settled
  split
  · split
    · exact k.setActive _ h
    · exact k.enterGated _ h
  · exact k.setActive _ h

theorem enterSettling (k : Inert P) (j : Job) (h : P s) : P (s.enterSettling j) := by
  unfold State.enterSettling
  simp only
  split
  · exact k.settled _ (k.frame h rfl rfl rfl rfl rfl)
  · exact k.frame h rfl rfl rfl rfl rfl

theorem startJob (k : Inert P) (j : Job) (h : P s) : P (s.startJob j) := by
  unfold State.startJob
  split
  · exact k.enterSettling _ h
  · exact k.deliverUntested _ _ h

theorem reserve (k : Inert P) (held : Bool) (h : P s) : P (s.reserve held) := by
  unfold State.reserve
  split
  · exact k.frame h rfl rfl rfl rfl rfl
  · exact h

theorem release (k : Inert P) (held : Bool) (h : P s) : P (s.release held) := by
  unfold State.release
  split
  · exact k.frame h rfl rfl rfl rfl rfl
  · exact h

/-! ## The engine's choice -/

theorem progressPass (k : Inert P) (h : P s) : P s.progressPass := by
  unfold State.progressPass
  split
  · exact k.frame h rfl rfl rfl rfl rfl
  · exact h

theorem takeChoice (k : Inert P) (c : Choice) (h : P s) : P (s.takeChoice c) := by
  cases c with
  | probe p => exact k.startJob _ (k.modPort _ _ h)
  | spot r rest => exact k.startJob _ (k.reserve _ (k.frame h rfl rfl rfl rfl rfl))
  | resume j => exact k.enterSettling _ (k.setParked _ h)
  | survey i e => exact k.startJob _ (k.reserve _ (k.frame h rfl rfl rfl rfl rfl))

theorem chooseLoop (k : Inert P) (fuel : Nat) (h : P s) : P (s.chooseLoop fuel) := by
  induction fuel generalizing s with
  | zero => exact h
  | succ fuel ih =>
    unfold State.chooseLoop
    split
    · exact h
    · simp only
      split
      · exact k.progressPass h
      · exact ih (k.takeChoice _ (k.progressPass h))

theorem wakeEngine (k : Inert P) (h : P s) : P s.wakeEngine := by
  unfold State.wakeEngine
  split
  · exact h
  · simp only
    split
    · exact k.chooseLoop _ (k.progressPass h)
    · split
      · exact k.chooseLoop _ (k.frame (k.progressPass h) rfl rfl rfl rfl rfl)
      · exact k.progressPass h

theorem endActiveOn (k : Inert P) (p : PortId) (h : P s) : P (s.endActiveOn p) := by
  unfold State.endActiveOn
  split
  · exact k.endActive _ h
  · exact h

theorem endParkedOn (k : Inert P) (p : PortId) (h : P s) : P (s.endParkedOn p) := by
  unfold State.endParkedOn
  split
  · exact k.endParked _ h
  · exact h

theorem engineOpening (k : Inert P) (p : PortId) (h : P s) : P (s.engineOpening p) :=
  k.wakeEngine (k.endParkedOn p (k.endActiveOn p h))

/-! ## The survey and the spot queue -/

theorem resumeWork (k : Inert P) (h : P s) : P s.resumeWork := by
  unfold State.resumeWork
  split
  · exact k.progressPass h
  · exact k.frame h rfl rfl rfl rfl rfl

theorem resumeSurvey (k : Inert P) (h : P s) : P s.resumeSurvey :=
  k.wakeEngine (k.resumeWork (k.frame h rfl rfl rfl rfl rfl))

theorem discardActiveSurvey (k : Inert P) (h : P s) : P s.discardActiveSurvey := by
  unfold State.discardActiveSurvey
  split
  · exact h
  · split
    · exact k.release _ (k.setActive _ h)
    · exact h

theorem discardParkedSurvey (k : Inert P) (h : P s) : P s.discardParkedSurvey := by
  unfold State.discardParkedSurvey
  split
  · exact h
  · split
    · exact k.release _ (k.setParked _ h)
    · exact h

theorem stopSurvey (k : Inert P) (h : P s) : P s.stopSurvey :=
  k.wakeEngine (k.discardParkedSurvey (k.discardActiveSurvey (k.frame h rfl rfl rfl rfl rfl)))

theorem queueSpot (k : Inert P) (r : SpotRequest) (h : P s) : P (s.queueSpot r) :=
  k.wakeEngine (k.frame h rfl rfl rfl rfl rfl)

/-! ## Switches and reactions -/

theorem openSwitch (k : Inert P) (p : PortId) (h : P s) : P (s.openSwitch p) :=
  k.engineOpening p (k.modPort _ _ h)

theorem isolatePort (k : Inert P) (p : PortId) (cause : IsolationCause) (h : P s) : P (s.isolatePort p cause) := by
  unfold State.isolatePort
  simp only
  split
  · exact k.openSwitch p (k.modPort _ _ h)
  · exact k.modPort _ _ h

theorem joinPort (k : Inert P) (p : PortId) (h : P s) : P (s.joinPort p) := by
  unfold State.joinPort
  split
  · exact h
  · exact k.modPort _ _ (k.modPort _ _ h)

theorem performAction (k : Inert P) (i : EntryId) (c : ReactionConfig) (trigger : Option PortId) (h : P s) :
    P (s.performAction i c trigger).1 := by
  unfold State.performAction
  cases c.action with
  | isolate => simp only; split; exacts [k.latch (.reacted _) (k.isolatePort _ _ h), h]
  | rejoin => simp only; split; exacts [k.joinPort _ h, h]
  | spot =>
    simp only
    split
    · split
      · exact k.queueSpot _ h
      · exact h
    · exact h
  | notify => simp only; split; exacts [k.latch (.note _ i) h, h]
  | surveyHold => simp only; split; exacts [k.frame h rfl rfl rfl rfl rfl, h]
  | surveyResume => simp only; split; exacts [k.resumeSurvey h, h]

theorem reportOutcome (k : Inert P) (outcome : FireOutcome) (h : P s) : P (s.reportOutcome outcome) := by
  cases outcome with
  | none | done => exact h
  | refusedFull | refusedState => exact k.latch .refused h

theorem offerTo (k : Inert P) (o : Occurrence) (i : EntryId) (h : P s) : P (State.offerTo o s i) := by
  unfold State.offerTo
  split
  · exact h
  · split
    · exact k.reportOutcome _ (k.frame (k.performAction i _ _ h) rfl rfl rfl rfl rfl)
    · exact h

theorem offerAll (k : Inert P) (o : Occurrence) (is : List EntryId) (h : P s) : P (is.foldl (State.offerTo o) s) := by
  induction is generalizing s with
  | nil => exact h
  | cons i is ih => exact ih (k.offerTo o i h)

theorem raise (k : Inert P) (o : Occurrence) (h : P s) : P (s.raise o) := by
  unfold State.raise State.react
  exact k.offerAll o _ (k.latch o h)

theorem raiseAll (k : Inert P) (os : List Occurrence) (h : P s) : P (s.raiseAll os) := by
  induction os generalizing s with
  | nil => exact h
  | cons o os ih =>
    rw [State.raiseAll_cons]
    exact ih (k.raise o h)

/-! ## Completions and trips -/

theorem failProbe (k : Inert P) (p : PortId) (tripped : Bool) (h : P s) : P (s.failProbe p tripped) :=
  k.raiseAll _ (k.openSwitch p (k.modPort _ _ h))

theorem judgeProbe (k : Inert P) (p : PortId) (value : Nat) (h : P s) : P (s.judgeProbe p value) := by
  unfold State.judgeProbe State.probeVerdict
  split
  · split
    · exact k.modPort _ _ (k.modPort _ _ h)
    · exact k.failProbe _ _ (k.modPort _ _ h)
  · exact h

theorem deliverOk (k : Inert P) (j : Job) (h : P s) : P (s.deliverOk j) := by
  unfold State.deliverOk
  cases j.origin with
  | probe p => exact k.judgeProbe _ _ h
  | spot tag => simp only; exact k.raiseAll _ (k.handleResult _ h)
  | survey slot pass => simp only; exact k.raiseAll _ (k.handleResult _ h)

/-- A completion marks its hand-over and takes the mark away: a law that the mark does not matter to stands through
it. -/
theorem completeOk (k : Inert P) (mark : ∀ {t : State} (b : Bool), P t → P (t.setHandingOver b)) (j : Job) (h : P s) :
    P (s.completeOk j) :=
  k.wakeEngine (mark _ (k.deliverOk j (mark _ (k.setActive _ h))))

theorem overcurrent (k : Inert P) (p : PortId) (h : P s) : P (s.overcurrent p) := by
  unfold State.overcurrent
  split
  · exact h
  · exact h
  · exact k.raise (.trip p) (k.openSwitch p (k.modPort _ _ h))
  · exact k.failProbe _ _ h

end Inert

end Sys2Proof.Machine
end

section
/-! The laws of a port (R21 to R32, R106) under what the commands write into one port: the passing of time, the
classifier's inputs, PORT_SET and the two resets. -/
namespace Sys2Proof.Machine

/-- The laws of a port read its switch, its condition record and its parameters alone. -/
theorem Port.Law.congr {a b : Port} (l : a.Law) (hs : b.switch = a.switch) (hc : b.cond = a.cond)
    (hp : b.params = a.params) : b.Law := by
  obtain ⟨ls, lc⟩ := l
  refine ⟨⟨?_, ?_, ?_, ?_, ?_, ?_, ?_, ?_, ?_⟩, lc.congr hc hp⟩
  · rw [hs, hc]; exact ls.dark
  · rw [hs, hc]; exact ls.sense
  · rw [hs]; exact ls.slot
  · rw [hs]; exact ls.settle
  · rw [hs]; exact ls.hold
  · rw [hp]; exact ls.maxRetries
  · rw [hs, hp]; exact ls.retries
  · rw [hs, hp]; exact ls.trying
  · rw [hs]; exact ls.joined

/-- A port whose condition record alone changes: the new record must keep the classifier's law, and what an open switch
asks of it. -/
theorem Port.Law.of_cond {a b : Port} (l : a.Law) (hs : b.switch = a.switch) (hp : b.params = a.params)
    (hc : b.cond.Law a.params)
    (hopen : a.switch.state.closed = false →
      b.cond.condition = .dark ∧ b.cond.cause = .switched ∧ b.cond.sense = none) : b.Law := by
  obtain ⟨ls, lc⟩ := l
  refine ⟨⟨?_, ?_, ?_, ?_, ?_, ?_, ?_, ?_, ?_⟩, ?_⟩
  · rw [hs]
    intro h
    obtain ⟨dark, switched, -⟩ := hopen h
    exact ⟨dark, switched⟩
  · rw [hs]
    intro h
    obtain ⟨-, -, sense⟩ := hopen h
    exact sense
  · rw [hs]; exact ls.slot
  · rw [hs]; exact ls.settle
  · rw [hs]; exact ls.hold
  · rw [hp]; exact ls.maxRetries
  · rw [hs, hp]; exact ls.retries
  · rw [hs, hp]; exact ls.trying
  · rw [hs]; exact ls.joined
  · exact ⟨hp ▸ hc.ceiling, hp ▸ lc.ceilingPositive, hc.drain, hc.dark, hc.gate, hc.quietRun, hc.activeRun, hc.dwell⟩

/-! ## Time -/

/-- Time runs the timers down and leaves what the laws read. -/
theorem Port.Law.elapse {r : Port} (l : r.Law) (d : Nat) : (r.elapse d).Law := by
  obtain ⟨ls, lc⟩ := l
  refine ⟨⟨ls.dark, fun h => ?sense, ls.slot, fun h => ?settle, fun h => ?hold, ls.maxRetries, ls.retries, ls.trying,
    ls.joined⟩, lc.ceiling, lc.ceilingPositive, ?drain, lc.dark, lc.gate, lc.quietRun, lc.activeRun, lc.dwell⟩
  case sense => simp [Port.elapse, CondRec.elapse, ls.sense h]
  case settle => simp [Port.elapse, SwitchRec.elapse, ls.settle h]
  case hold => simp [Port.elapse, SwitchRec.elapse, ls.hold h]
  case drain => simpa [Port.elapse, CondRec.elapse] using lc.drain

/-! ## The classifier's inputs -/

/-- On a closed switch a symbol keeps the laws. -/
theorem Port.Law.deliver {r : Port} (l : r.Law) (closed : r.switch.state.closed = true) (now : Word32) (p : PortId)
    (c : SymClass) : (r.deliver now p c).1.Law :=
  l.of_cond rfl rfl ((l.2.cond.takeClass now c).takeIndication now _) (fun h => by simp [closed] at h)

/-- The power-sense signal moves the sense timer alone, and only on a closed switch. -/
theorem Port.Law.powerSense {r : Port} (l : r.Law) (good : Bool) :
    Port.Law { r with
      powerGood := good, cond := if r.switch.state.closed then r.cond.powerSense good else r.cond } := by
  cases closed : r.switch.state.closed with
  | false => exact l.congr rfl rfl rfl
  | true =>
    refine l.of_cond rfl rfl ?_ (fun h => by simp [closed] at h)
    have law := l.2.cond
    simp only [if_true, CondRec.powerSense]
    split
    · split
      · exact law
      · exact ⟨law.ceiling, law.drain, law.dark, law.gate, law.quietRun, law.activeRun, law.dwell⟩
    · exact ⟨law.ceiling, law.drain, law.dark, law.gate, law.quietRun, law.activeRun, law.dwell⟩

/-- The sense timer of an open switch does not run, so its expiry finds the switch closed. -/
theorem Port.Law.senseExpires {r : Port} (l : r.Law) (running : r.cond.sense.isSome = true) (now : Word32) :
    Port.Law { r with cond := (r.cond.senseExpires now).1 } := by
  refine l.of_cond rfl rfl ?_ (fun h => by simp [l.1.sense h] at running)
  simp only [CondRec.senseExpires]
  split
  · have law := l.2.cond.enter now .unseen .observed
    exact ⟨law.ceiling, law.drain, law.dark, law.gate, law.quietRun, law.activeRun, law.dwell⟩
  · have law := l.2.cond.enter now .dark .observed
    exact ⟨law.ceiling, law.drain, law.dark, law.gate, law.quietRun, law.activeRun, law.dwell⟩

/-- The drain timer runs above level 0 alone, and stops as the level reaches it. -/
theorem Port.Law.drainExpires {r : Port} (l : r.Law) (running : r.cond.drain.isSome = true) :
    Port.Law { r with cond := r.cond.drainExpires r.params } := by
  have law := l.2.cond
  have positive : 0 < r.cond.noiseLevel := law.drain.mp running
  refine l.of_cond rfl rfl ⟨?_, ?_, ?_, law.gate, law.quietRun, law.activeRun, law.dwell⟩ fun h => ?_
  · exact (Nat.sub_le _ _).trans law.ceiling
  · simp only [CondRec.drainExpires]
    split <;> simp <;> omega
  · exact fun dark => absurd (law.dark dark) (by omega)
  · exact absurd (law.dark (l.1.dark h).1) (by omega)

theorem Port.Law.reloadBudget {r : Port} (l : r.Law) : Port.Law { r with cond := r.cond.reloadBudget r.params } := by
  have law := l.2.cond
  exact l.of_cond rfl rfl ⟨law.ceiling, law.drain, law.dark, law.gate, law.quietRun, law.activeRun, law.dwell⟩
    fun h => ⟨(l.1.dark h).1, (l.1.dark h).2, l.1.sense h⟩

theorem Port.Law.stepDwell {r : Port} (l : r.Law) (below : r.cond.dwell < 65535) :
    Port.Law { r with cond := r.cond.stepDwell } := by
  have law := l.2.cond
  exact l.of_cond rfl rfl ⟨law.ceiling, law.drain, law.dark, law.gate, law.quietRun, law.activeRun, below⟩
    fun h => ⟨(l.1.dark h).1, (l.1.dark h).2, l.1.sense h⟩

/-! ## PORT_SET (R35, R36, R124) -/

/-- A new ceiling above 0 keeps the classifier's law under it: the level is clamped and stays above 0 with its drain
timer. -/
theorem CondRec.Law.newCeiling {q : Params} {r : CondRec} (l : r.Law q) (now : Word32) (q' : Params)
    (positive : 1 ≤ q'.noiseCeiling) : (r.newCeiling now q'.noiseCeiling).1.Law q' := by
  have clamped : CondRec.Law q' { r with noiseLevel := min r.noiseLevel q'.noiseCeiling } := by
    refine ⟨Nat.min_le_right _ _, ?_, fun dark => ?_, l.gate, l.quietRun, l.activeRun, l.dwell⟩
    · simp only [l.drain]
      omega
    · simp [l.dark dark]
  unfold CondRec.newCeiling
  simp only
  split
  · exact clamped.enter now .noisy .observed
  · exact clamped

/-- Only UNSEEN, QUIET and TRAFFIC are left for NOISY, so a new ceiling leaves DARK as it is. -/
theorem CondRec.newCeiling_of_dark {r : CondRec} (dark : r.condition = .dark) (now : Word32) (ceiling : Nat) :
    (r.newCeiling now ceiling).1 = { r with noiseLevel := min r.noiseLevel ceiling } := by
  simp [CondRec.newCeiling, dark]

theorem CondRec.Law.reloadBudget {q : Params} {r : CondRec} (l : r.Law q) (q' : Params) : (r.reloadBudget q').Law q :=
  ⟨l.ceiling, l.drain, l.dark, l.gate, l.quietRun, l.activeRun, l.dwell⟩

theorem CondRec.Law.of_ceiling {q q' : Params} {r : CondRec} (l : r.Law q) (h : q'.noiseCeiling = q.noiseCeiling) :
    r.Law q' :=
  ⟨h ▸ l.ceiling, l.drain, l.dark, l.gate, l.quietRun, l.activeRun, l.dwell⟩

/-- A written ceiling that PORT_SET accepts is positive, and one that is not written stands. -/
theorem CondRec.Law.portSet {q : Params} {r : CondRec} (l : r.Law q) (now : Word32) (payload : List Byte)
    (ceiling : writes payload 0 = true → 1 ≤ u8 payload 3) :
    (r.portSet now payload (q.written payload)).1.Law (q.written payload) := by
  have written : (if writes payload 0 then r.newCeiling now (q.written payload).noiseCeiling else (r, none)).1.Law
      (q.written payload) := by
    by_cases h : writes payload 0 = true
    · rw [if_pos h]
      exact l.newCeiling now _ (by simpa [Params.written, h] using ceiling h)
    · rw [if_neg h]
      exact l.of_ceiling (by simp [Params.written, h])
  unfold CondRec.portSet
  simp only
  split
  · exact written.reloadBudget _
  · exact written

/-- PORT_SET leaves DARK, its cause and the sense timer. -/
theorem CondRec.portSet_of_dark {r : CondRec} (dark : r.condition = .dark) (now : Word32) (payload : List Byte)
    (q : Params) :
    (r.portSet now payload q).1.condition = .dark ∧ (r.portSet now payload q).1.cause = r.cause ∧
      (r.portSet now payload q).1.sense = r.sense := by
  unfold CondRec.portSet
  by_cases h : writes payload 0 = true <;> simp only [h, if_true, Bool.false_eq_true, if_false] <;>
    split <;> simp [CondRec.reloadBudget, CondRec.newCeiling_of_dark dark, dark]

/-- PORT_SET as its checks admit it: a written ceiling and written max retries are positive, and the port is ISOLATED
or JOINED. -/
theorem Port.Law.portSet {r : Port} (l : r.Law) (now : Word32) (payload : List Byte)
    (ceiling : writes payload 0 = true → 1 ≤ u8 payload 3)
    (retries : writes payload 8 = true → 1 ≤ u8 payload 13)
    (state : r.switch.state = .isolated ∨ r.switch.state = .joined) : (r.portSet now payload).1.Law := by
  obtain ⟨ls, lc⟩ := l
  have cond := lc.cond.portSet now payload ceiling
  have hmax : 1 ≤ (r.params.written payload).maxRetries := by
    by_cases h : writes payload 8 = true
    · simpa [Params.written, h] using retries h
    · simpa [Params.written, h] using ls.maxRetries
  have hretries : (if writes payload 8 = true then min r.switch.retries (r.params.written payload).maxRetries
      else r.switch.retries) ≤ (r.params.written payload).maxRetries := by
    by_cases h : writes payload 8 = true
    · simp [h]
    · simpa [Params.written, h] using ls.retries
  have hjoined : r.switch.state = .joined →
      (if writes payload 8 = true then min r.switch.retries (r.params.written payload).maxRetries
        else r.switch.retries) = 0 := by
    intro h
    simp [ls.joined h]
  refine ⟨⟨fun h => ?dark, fun h => ?sense, ls.slot, ls.settle, ls.hold, hmax, hretries, fun h => ?trying, hjoined⟩,
    cond.ceiling, ?positive, cond.drain, cond.dark, cond.gate, cond.quietRun, cond.activeRun, cond.dwell⟩
  case dark =>
    obtain ⟨dark, switched⟩ := ls.dark h
    obtain ⟨dark', cause, -⟩ := CondRec.portSet_of_dark dark now payload (r.params.written payload)
    exact ⟨dark', cause.trans switched⟩
  case sense =>
    obtain ⟨-, -, sense⟩ := CondRec.portSet_of_dark (ls.dark h).1 now payload (r.params.written payload)
    exact sense.trans (ls.sense h)
  case trying =>
    have joined := state.resolve_left h
    exact (hjoined joined).trans_lt hmax
  case positive =>
    by_cases h : writes payload 0 = true
    · simpa [Port.portSet, Params.written, h] using ceiling h
    · simpa [Port.portSet, Params.written, h] using lc.ceilingPositive

/-! ## Resets -/

/-- The condition record at soft reset: UNSEEN or DARK (SWITCHED), with nothing counted yet. -/
theorem CondRec.softReset_fields (now : Word32) (closed good : Bool) (q : Params) (r : CondRec) :
    let c := r.softReset now closed good q
    c.condition = (if closed then .unseen else .dark) ∧ c.cause = (if closed then .observed else .switched) ∧
      c.entryTime = now ∧ c.dwell = 0 ∧ c.noiseLevel = 0 ∧ c.activeRun = 0 ∧ c.quietRun = 0 ∧ c.drain = none ∧
      c.sense = (if closed = true ∧ good = false then some 0 else none) ∧ c.quietGate = false := by
  cases closed <;> cases good <;>
    simp [CondRec.softReset, CondRec.enter, CondRec.darken, CondRec.reloadBudget, senseOnClosing]

/-- The switch record at soft reset: PROBING settles anew, and another state stands. -/
theorem SwitchRec.softReset_eq (q : Params) (w : SwitchRec) :
    w.softReset q =
      { w with
        slot := if w.state = .probing then .empty else w.slot
        settle := if w.state = .probing then some (q.settleTime * ticksPerMs) else w.settle } := by
  obtain ⟨state, _⟩ := w
  cases state <;> rfl

theorem Port.Law.softReset {r : Port} (l : r.Law) (now : Word32) : (r.softReset now).Law := by
  obtain ⟨ls, lc⟩ := l
  obtain ⟨condition, cause, -, dwell, level, active, quiet, drain, sense, gate⟩ :=
    CondRec.softReset_fields now r.switch.state.closed r.powerGood r.params r.cond
  have switch : (r.softReset now).switch = _ := SwitchRec.softReset_eq r.params r.switch
  refine ⟨⟨?_, ?_, ?_, ?_, ?_, ls.maxRetries, ?_, ?_, ?_⟩, ?_, lc.ceilingPositive, ?_, fun _ => level, ?_, ?_, ?_, ?_⟩
  · rw [switch]
    exact fun h => ⟨condition.trans (if_neg (by simp [h])), cause.trans (if_neg (by simp [h]))⟩
  · rw [switch]
    exact fun h => sense.trans (if_neg (by simp [h]))
  · rw [switch]
    exact fun h => (if_neg h).trans (ls.slot h)
  · rw [switch]
    exact fun h => (if_neg h).trans (ls.settle h)
  · rw [switch]; exact ls.hold
  · rw [switch]; exact ls.retries
  · rw [switch]; exact ls.trying
  · rw [switch]; exact ls.joined
  · exact level.trans_le (Nat.zero_le _)
  · exact ⟨fun h => by simp [Port.softReset, drain] at h, fun h => absurd h (by simp [Port.softReset, level])⟩
  · exact fun h => by simp [Port.softReset, gate] at h
  · exact quiet.trans_le (Nat.zero_le _)
  · exact active.trans_le (Nat.zero_le _)
  · exact dwell.trans_le (Nat.zero_le _)

theorem Port.atReset_law (joinMode good : Bool) (line : Level) : (Port.atReset joinMode good line).Law := by
  cases joinMode <;> cases good <;> cases line <;> constructor <;> constructor <;> decide

/-- The ports right after a full reset. -/
theorem State.port_atReset (straps : Straps) (powerGood : Vector Bool 8) (lines : Vector Level 8) (p : PortId) :
    (State.atReset straps powerGood lines).port p = Port.atReset straps.joinMode powerGood[p] lines[p] := by
  match p with
  | 0 | 1 | 2 | 3 | 4 | 5 | 6 | 7 => rfl

end Sys2Proof.Machine
end

section
/-! The dispatch of chapters 1 to 10, said once: a law that stands through a short list of shared operations stands
through every request, every command and every step. Each law of the part then needs that list alone. -/
namespace Sys2Proof.Machine

/-! ## Requests -/

/-- `P` stands through what the requests of 10.3 do. Where a request writes ports, their own laws may be used; where it
clears flags, no set-stamp is new. -/
structure RequestKept (P : State → Prop) : Prop where
  ports : ∀ {s : State} (v : Vector Port 8), P s → (∀ p : PortId, (s.port p).Law → v[p].Law) → P { s with ports := v }
  wakeEngine : ∀ {s : State}, P s → P s.wakeEngine
  raise : ∀ {s : State} (o : Occurrence), P s → P (s.raise o)
  isolatePort : ∀ {s : State} (p : PortId) (cause : IsolationCause), P s → P (s.isolatePort p cause)
  updateActive : ∀ {s : State} {j k : Job}, P s → s.engine.active = some j → k.origin = j.origin →
    k.reserved = j.reserved → P (s.setActive (some k))
  survey : ∀ {s : State} (v : Survey), P s → P { s with survey := v }
  stopSurvey : ∀ {s : State}, P s → P s.stopSurvey
  spots : ∀ {s : State} (q : List SpotRequest), P s → (s.spots.length ≤ 8 → q.length ≤ 8) → P { s with spots := q }
  monitors : ∀ {s : State} (m : Vector Monitor 12) (alert : Bool), P s →
    P { s with results := { s.results with monitors := m, alert := alert } }
  reactions : ∀ {s : State} (v : Vector (Option ReactionEntry) 24), P s → P { s with reactions := v }
  flags : ∀ {s : State} (flags : Vector (Vector (Option Word32) 11) 9) (masks : Vector Word16 9), P s →
    (∀ (i : SourceId) (f : FlagId) (t : Word32), flags[i][f] = some t → s.summary.flags[i][f] = some t) →
    P { s with summary := { s.summary with flags := flags, masks := masks } }
  openSession : ∀ {s : State} (payload : List Byte), P s → P (s.openSession payload)
  resetPending : ∀ {s : State}, P s → P (s.modLink fun l => { l with resetPending := true })

/-- A validated request leaves the state or is carried out. -/
theorem validated_kept {P : State → Prop} {s : State} {checks : List Check} {c : State × List Byte} (h : P s)
    (carriedOut : firstFailure checks = none → P c.1) : P (validated checks s c).1 := by
  cases hc : firstFailure checks with
  | none => rw [validated_of_passes s c hc]; exact carriedOut hc
  | some a => rw [validated_of_fails s c hc]; exact h

theorem firstFailure_eq_none_iff (checks : List Check) :
    firstFailure checks = none ↔ ∀ c ∈ checks, c.passes = true := by
  induction checks with
  | nil => simp [firstFailure]
  | cons c rest ih => cases hc : c.passes <;> simp [firstFailure, hc, ih]

/-! ## Flags that a clear leaves (R149) -/

theorem nodup_indexes (n : Nat) : (indexes n).Nodup := by
  induction n with
  | zero => exact List.nodup_nil
  | succ n ih =>
    refine List.nodup_cons.mpr ⟨?_, ih.map (Fin.succ_injective n)⟩
    simp [Fin.succ_ne_zero]

/-- A table whose named elements are rewritten one after another, each by its own rule. -/
theorem get_foldl_set {α : Type} {n : Nat} (g : Fin n → α → α) (is : List (Fin n)) (nodup : is.Nodup) (v : Vector α n)
    (j : Fin n) :
    (is.foldl (fun v (i : Fin n) => v.set i (g i v[i])) v)[j] = if j ∈ is then g j v[j] else v[j] := by
  induction is generalizing v with
  | nil => simp
  | cons i is ih =>
    obtain ⟨notIn, rest⟩ := List.nodup_cons.mp nodup
    rw [List.foldl_cons, ih rest]
    by_cases hj : j = i
    · subst hj
      simp [notIn]
    · have hv : (i : Nat) ≠ (j : Nat) := fun e => hj (Fin.ext e.symm)
      simp [hj, hv]

/-- The same over the whole table. -/
theorem get_foldl_indexes {α : Type} {n : Nat} (g : Fin n → α → α) (v : Vector α n) (j : Fin n) :
    ((indexes n).foldl (fun v (i : Fin n) => v.set i (g i v[i])) v)[j] = g j v[j] := by
  rw [get_foldl_set g _ (nodup_indexes n), if_pos (mem_indexes j)]

theorem get_clearFlags (stampS : Word32) (named : Nat) (flags : Vector (Option Word32) 11) (f : FlagId) :
    (clearFlags stampS named flags)[f] = clearFlag stampS (named.testBit f.val) flags[f] :=
  get_foldl_indexes (fun (i : Fin 11) => clearFlag stampS (named.testBit i.val)) flags f

theorem of_clearFlag_eq_some {stampS t : Word32} {named : Bool} {flag : Option Word32}
    (h : clearFlag stampS named flag = some t) : flag = some t := by
  unfold clearFlag at h
  split at h
  · cases h
  · split at h
    · cases h
    · exact h

/-- A flag that is SET after a clear was SET before it with the same stamp. -/
theorem Summary.of_cleared_flag {payload : List Byte} {u : Summary} {i : SourceId} {f : FlagId} {t : Word32}
    (h : (u.cleared payload).flags[i][f] = some t) : u.flags[i][f] = some t := by
  have shrinks : ∀ (pairs : List Nat) (v : Vector (Vector (Option Word32) 11) 9),
      (pairs.foldl (fun v n => v.set (sourceOf (pairSource payload n))
        (clearFlags (BitVec.ofNat 32 (u32 payload 0)) (pairFlags payload n)
          v[sourceOf (pairSource payload n)])) v)[i][f] = some t → v[i][f] = some t := by
    intro pairs
    induction pairs with
    | nil => exact fun v h => h
    | cons n pairs ih =>
      intro v h
      have step := ih _ h
      by_cases hi : sourceOf (pairSource payload n) = i
      · subst hi
        simp only [Fin.getElem_fin, Vector.getElem_set_self] at step ⊢
        exact of_clearFlag_eq_some ((get_clearFlags ..).symm.trans step)
      · have hv : (sourceOf (pairSource payload n) : Nat) ≠ (i : Nat) := fun e => hi (Fin.ext e)
        simpa only [Fin.getElem_fin, Vector.getElem_set_ne _ _ hv] using step
  exact shrinks _ _ h

namespace RequestKept

variable {P : State → Prop} {s : State}

theorem modPort (k : RequestKept P) (p : PortId) (f : Port → Port) (h : P s)
    (law : (s.port p).Law → (f (s.port p)).Law) : P (s.modPort p f) := by
  refine k.ports _ h fun q l => ?_
  have port : (s.modPort p f).port q = _ := s.port_modPort p q f
  change ((s.modPort p f).port q).Law
  rw [port]
  split
  case isTrue hq => exact law (hq ▸ l)
  case isFalse => exact l

theorem raiseAll (k : RequestKept P) (os : List Occurrence) (h : P s) : P (s.raiseAll os) := by
  induction os generalizing s with
  | nil => exact h
  | cons o os ih =>
    rw [State.raiseAll_cons]
    exact ih (k.raise o h)

theorem quietGateClosed (k : RequestKept P) (p : PortId) (h : P s) : P (s.quietGateClosed p) := by
  unfold State.quietGateClosed
  split
  · exact h
  · split
    case isTrue active _ => exact k.updateActive h active rfl rfl
    case isFalse => exact h

theorem conditionChanged (k : RequestKept P) (p : PortId) (entered : Option Condition) (h : P s) :
    P (s.conditionChanged p entered) :=
  k.raiseAll _ (k.quietGateClosed p h)

/-- A closing of a port whose switch is open (R107). -/
theorem closing (k : RequestKept P) (p : PortId) (f : Params → SwitchRec → SwitchRec) (h : P s)
    (state : (f (s.port p).params (s.port p).switch).state = .probing)
    (hold : (f (s.port p).params (s.port p).switch).hold = none)
    (retries : (s.port p).Law → (f (s.port p).params (s.port p).switch).retries < (s.port p).params.maxRetries) :
    P ((s.modSwitch p f).closeSwitch p) := by
  have port : (s.modSwitch p f).port p =
      { s.port p with switch := f (s.port p).params (s.port p).switch } := s.port_modPort_same p _
  unfold State.closeSwitch State.modSwitch
  rw [State.modPort_modPort]
  exact k.modPort _ _ h fun l => Port.closed_law l s.timebase _ state hold (retries l)

theorem joinPort (k : RequestKept P) (p : PortId) (h : P s) : P (s.joinPort p) := by
  unfold State.joinPort
  split
  · exact h
  · exact k.closing p _ h rfl rfl fun l => Nat.lt_of_lt_of_le Nat.zero_lt_one l.1.maxRetries

theorem resumeSurvey (k : RequestKept P) (h : P s) : P s.resumeSurvey := by
  refine k.wakeEngine ?_
  unfold State.resumeWork State.progressPass
  split
  · split
    · exact k.survey _ (k.survey _ h)
    · exact k.survey _ h
  · exact k.survey _ (k.survey _ h)

/-! ## The requests, block by block -/

theorem answerPortSet (k : RequestKept P) (payload : List Byte) (h : P s) :
    P (Machine.answerPortSet payload s).1 := by
  refine validated_kept h fun passes => k.conditionChanged _ _ (k.modPort _ _ h fun l => ?_)
  have ok := (firstFailure_eq_none_iff _).mp passes
  simp only [portSetChecks, paramCheck, rangeCheck, stateCheck, within, List.forall_mem_cons, Bool.or_eq_true,
    Bool.not_eq_true', Bool.and_eq_true, decide_eq_true_eq] at ok
  obtain ⟨-, -, -, ceiling, -, -, -, -, -, retries, state, -⟩ := ok
  refine l.portSet s.timebase payload (fun written => ?_) (fun written => ?_) ?_
  · exact ceiling.resolve_left (by simp [written])
  · exact (retries.resolve_left (by simp [written])).1
  · cases hstate : (s.port (portAt payload 0)).switch.state <;> simp [hstate] at state ⊢

theorem answerPortJoin (k : RequestKept P) (payload : List Byte) (h : P s) :
    P (Machine.answerPortJoin payload s).1 := validated_kept h fun _ => k.joinPort _ h

theorem answerPortIsolate (k : RequestKept P) (payload : List Byte) (h : P s) :
    P (Machine.answerPortIsolate payload s).1 := validated_kept h fun _ => k.isolatePort _ _ h

theorem answerCounts (k : RequestKept P) (payload : List Byte) (h : P s) : P (Machine.answerCounts payload s).1 := by
  refine validated_kept h fun _ => ?_
  simp only
  split
  · exact k.modPort _ _ h fun l => l.congr rfl rfl rfl
  · exact h

theorem answerSurveyRun (k : RequestKept P) (payload : List Byte) (h : P s) :
    P (Machine.answerSurveyRun payload s).1 := validated_kept h fun _ => k.wakeEngine (k.survey _ h)

theorem answerSpot (k : RequestKept P) (tag : Byte) (payload : List Byte) (h : P s) :
    P (Machine.answerSpot tag payload s).1 := by
  refine validated_kept h fun passes => k.wakeEngine (k.spots _ h fun _ => ?_)
  have ok := (firstFailure_eq_none_iff _).mp passes
  simp only [spotChecks, List.forall_mem_cons, spotPlaces] at ok
  obtain ⟨-, -, -, -, -, -, -, room, -⟩ := ok
  rw [List.length_append, List.length_singleton]
  exact of_decide_eq_true room

theorem answerSpotCancel (k : RequestKept P) (payload : List Byte) (h : P s) :
    P (Machine.answerSpotCancel payload s).1 :=
  validated_kept h fun _ => k.wakeEngine (k.spots _ h fun few => (List.length_filter_le _ _).trans few)

theorem answerSummaryClear (k : RequestKept P) (payload : List Byte) (h : P s) :
    P (Machine.answerSummaryClear payload s).1 :=
  validated_kept h fun _ => k.flags _ s.summary.masks h fun _ _ _ => Summary.of_cleared_flag

theorem answerNotifyMask (k : RequestKept P) (payload : List Byte) (h : P s) :
    P (Machine.answerNotifyMask payload s).1 := by
  refine validated_kept h fun _ => ?_
  simp only [Summary.masked]
  split
  · exact k.flags s.summary.flags _ h fun _ _ _ => id
  · exact h

/-- The block that owns a KIND keeps the law, whatever the KIND. -/
theorem answerRequest (k : RequestKept P) (kind tag : Byte) (payload : List Byte) (h : P s) :
    P (Machine.answerRequest kind tag payload s).1 := by
  unfold Machine.answerRequest
  split
  · exact validated_kept h fun _ => k.openSession payload h
  · exact validated_kept h fun _ => h
  · exact validated_kept h fun _ => k.resetPending h
  · exact k.answerPortSet payload h
  · exact validated_kept h fun _ => h
  · exact k.answerPortJoin payload h
  · exact k.answerPortIsolate payload h
  · exact k.answerCounts payload h
  · exact validated_kept h fun _ => k.survey _ h
  · exact validated_kept h fun _ => h
  · exact k.answerSurveyRun payload h
  · exact validated_kept h fun _ => k.survey _ h
  · exact validated_kept h fun _ => k.resumeSurvey h
  · exact validated_kept h fun _ => k.stopSurvey h
  · exact k.answerSpot tag payload h
  · exact k.answerSpotCancel payload h
  · exact validated_kept h fun _ => k.monitors _ _ h
  · exact validated_kept h fun _ => h
  · exact validated_kept h fun _ => k.reactions _ h
  · exact validated_kept h fun _ => h
  · exact validated_kept h fun _ => k.reactions _ h
  · exact validated_kept h fun _ => h
  · exact k.answerSummaryClear payload h
  · exact k.answerNotifyMask payload h
  · exact h

end RequestKept

end Sys2Proof.Machine
end

section
/-! The commands: which shared operations each runs, and the law of a command and of a step from those of the
operations. -/
namespace Sys2Proof.Machine

/-- `P` stands through what the commands do: the requests, the passing of time, the arbiter, the jobs, and the host
link's own moves, each under the guard that its command has checked. -/
structure CommandKept (P : State → Prop) : Prop extends RequestKept P where
  elapse : ∀ {s : State} (d : Nat), P s → P (s.elapse d)
  arbitrate : ∀ {s : State}, P s → P s.arbitrate
  endActive : ∀ {s : State} (status : JobStatus), P s → P (s.endActive status)
  completeOk : ∀ {s : State} {j k : Job}, P s → s.engine.active = some j → k.origin = j.origin →
    k.reserved = j.reserved → P (s.completeOk k)
  overcurrent : ∀ {s : State} (p : PortId), P s → P (s.overcurrent p)
  fullReset : ∀ {s : State} (straps : Straps) (powerGood : Vector Bool 8) (lines : Vector Level 8), P s →
    P { State.atReset straps powerGood lines with pending := s.pending }
  resetBlocks : ∀ {s : State}, P s → P s.resetBlocks
  receiver : ∀ {s : State} (rx : Receiver), P s → P (s.modLink fun l => { l with rx := rx })
  countDiscard : ∀ {s : State}, P s → P (s.modLink Link.countDiscard)
  frameArrives : ∀ {s : State}, P s → P s.frameArrives
  queueReply : ∀ {s : State} (body : List Byte), P s → s.link.replies.length < 4 →
    P (s.modLink (Link.queueReply body))
  reply : ∀ {s : State} (kind tag : Byte) (answer : Answer), P s → s.link.replies.length < 4 →
    s.link.cached kind tag = none → P (s.reply kind tag answer)
  holdFrame : ∀ {s : State} (f : HeldFrame), P s → s.link.resetPending = true → P (s.modLink (Link.holdFrame f))
  holdAgain : ∀ {s t : State} (held : List HeldFrame), P s → P t → t.link.resetPending = true →
    held.length ≤ s.link.hold.length → P (t.modLink fun l => { l with hold := held })
  reportEnds : ∀ {s : State}, P s →
    P ((s.modSession fun v => { v with ackTimer := s.ackTimerStart }).modLink fun l => { l with line := none })
  replyEnds : ∀ {s : State}, P s → P (s.modLink fun l => { l with line := none, replies := l.replies.tail })
  acknowledge : ∀ {s : State} (seq : Byte), P s → s.link.session.state = .opened → P (s.acknowledge seq)
  loseSession : ∀ {s : State}, P s → P (s.modSession Session.lose).returnSent
  retransmit : ∀ {s : State} (count : Nat) (numbers : List Byte), P s → s.link.session.state = .opened →
    P (s.modSession fun v => { v with retryCount := count, retransmit := numbers, ackTimer := none })

/-- A command is answered with a next state in which `P` holds. -/
def Answers (P : State → Prop) (o : Host.Outcome State Fault Refusal) : Prop := ∃ t, o = .next t ∧ P t

theorem Answers.next {P : State → Prop} {s : State} (h : P s) : Answers P (.next s) := ⟨s, rfl, h⟩

/-- What a request finds in the link after its handler: the reply queue as it was, and the cache as it was or, after
HELLO, empty. -/
def RepliesStand (replies : List (List Byte)) (cache : List CacheEntry) (s : State) : Prop :=
  s.link.replies = replies ∧ (s.link.cache = cache ∨ s.link.cache = [])

theorem repliesStand_inert (replies : List (List Byte)) (cache : List CacheEntry) :
    Inert (RepliesStand replies cache) where
  frame h _ _ link _ _ := by
    unfold RepliesStand
    rwa [link]
  latch o h := by
    unfold RepliesStand
    rwa [(State.latch_keeps _ o).link]
  handleResult c h := by
    unfold RepliesStand
    rwa [(State.handleResult_keeps _ c).link]

/-- An inert law stands through the requests that write neither flags nor the session. -/
theorem Inert.requestKept {P : State → Prop} (k : Inert P)
    (flags : ∀ {s : State} (flags : Vector (Vector (Option Word32) 11) 9) (masks : Vector Word16 9), P s →
      (∀ (i : SourceId) (f : FlagId) (t : Word32), flags[i][f] = some t → s.summary.flags[i][f] = some t) →
      P { s with summary := { s.summary with flags := flags, masks := masks } })
    (openSession : ∀ {s : State} (payload : List Byte), P s → P (s.openSession payload))
    (resetPending : ∀ {s : State}, P s → P (s.modLink fun l => { l with resetPending := true })) :
    RequestKept P where
  ports _ h _ := k.frame h rfl rfl rfl rfl rfl
  wakeEngine := k.wakeEngine
  raise := k.raise
  isolatePort := k.isolatePort
  updateActive h _ _ _ := k.setActive _ h
  survey _ h := k.frame h rfl rfl rfl rfl rfl
  stopSurvey := k.stopSurvey
  spots _ h _ := k.frame h rfl rfl rfl rfl rfl
  monitors _ _ h := k.frame h rfl rfl rfl rfl rfl
  reactions _ h := k.frame h rfl rfl rfl rfl rfl
  flags := flags
  openSession := openSession
  resetPending := resetPending

theorem repliesStand_requestKept (replies : List (List Byte)) (cache : List CacheEntry) :
    RequestKept (RepliesStand replies cache) :=
  (repliesStand_inert replies cache).requestKept (fun _ _ h _ => h) (fun _ h => ⟨h.1, .inr rfl⟩) fun h => h

theorem Link.cached_nil {l : Link} (h : l.cache = []) (kind tag : Byte) : l.cached kind tag = none := by
  simp [Link.cached, h]

/-- The handler's answer finds its reply place, and no reply of its tag and KIND in the cache. -/
theorem answerRequest_repliesStand (kind tag : Byte) (payload : List Byte) {s : State}
    (room : s.link.replies.length < 4) (uncached : s.link.cached kind tag = none) :
    (answerRequest kind tag payload s).1.link.replies.length < 4 ∧
      (answerRequest kind tag payload s).1.link.cached kind tag = none := by
  obtain ⟨replies, cache⟩ := (repliesStand_requestKept s.link.replies s.link.cache).answerRequest kind tag payload
    (s := s) ⟨rfl, .inl rfl⟩
  refine ⟨replies ▸ room, ?_⟩
  rcases cache with same | empty
  · simpa only [Link.cached, same] using uncached
  · exact Link.cached_nil empty kind tag

namespace CommandKept

variable {P : State → Prop} {s : State}

/-! ## The host link -/

theorem discardFrame (k : CommandKept P) (h : P s) : P (s.modLink Link.discardFrame) :=
  k.receiver .hunting (k.countDiscard h)

theorem execute (k : CommandKept P) (kind tag : Byte) (payload : List Byte) (h : P s) :
    P (s.execute kind tag payload) := by
  unfold State.execute
  split
  case h_1 body _ =>
    split
    case isTrue room => exact k.queueReply body h room
    case isFalse => exact k.countDiscard h
  case h_2 uncached =>
    split
    case isTrue room =>
      obtain ⟨room', uncached'⟩ := answerRequest_repliesStand kind tag payload room uncached
      exact k.reply kind tag _ (k.answerRequest kind tag payload h) room' uncached'
    case isFalse => exact k.countDiscard h

theorem takeRequest (k : CommandKept P) (kind tag : Byte) (payload : List Byte) (h : P s) :
    P (s.takeRequest kind tag payload) := by
  unfold State.takeRequest
  simp only
  split
  case isTrue pending => exact k.holdFrame _ (k.frameArrives h) pending
  case isFalse => exact k.execute kind tag payload (k.frameArrives h)

theorem takeAck (k : CommandKept P) (seq : Byte) (payload : List Byte) (h : P s) : P (s.takeAck seq payload) := by
  unfold State.takeAck
  simp only
  split
  · exact k.countDiscard (k.frameArrives h)
  · split
    case isTrue names => exact k.wakeEngine (k.acknowledge seq (k.frameArrives h) names.1)
    case isFalse => exact k.frameArrives h

theorem takeFrame (k : CommandKept P) (body : List Byte) (h : P s) : P (s.takeFrame body) := by
  unfold State.takeFrame
  split
  · split
    · exact k.takeAck _ _ h
    · exact k.takeRequest _ _ _ h
  · exact h
  · exact h

theorem receiveByte (k : CommandKept P) (byte : Byte) (framingOk : Bool) (h : P s) :
    P (s.receiveByte byte framingOk) := by
  unfold State.receiveByte
  split
  · exact k.receiver _ h
  · exact k.discardFrame h
  · exact k.takeFrame _ h

/-- Held requests are executed; those behind a held RESET are no more than were held. -/
theorem executeHeld (k : CommandKept P) {t : State} (held : List HeldFrame) (few : held.length ≤ t.link.hold.length)
    (ht : P t) (h : P s) : P (executeHeld held s) := by
  induction held generalizing s with
  | nil => exact h
  | cons f rest ih =>
    unfold Machine.executeHeld
    split
    case isTrue pending => exact k.holdAgain (f :: rest) ht h pending few
    case isFalse => exact ih ((Nat.le_succ _).trans few) (k.execute f.kind f.tag f.payload h)

theorem softReset (k : CommandKept P) (h : P s) : P s.softReset :=
  k.executeHeld s.link.hold le_rfl h (k.resetBlocks h)

theorem frameLeaves (k : CommandKept P) (f : LineFrame) (h : P s) : P (s.frameLeaves f) := by
  unfold State.frameLeaves
  split
  · exact k.softReset h
  · split
    · exact k.reportEnds h
    · exact k.replyEnds h

theorem enterLost (k : CommandKept P) (h : P s) : P s.enterLost := k.raise _ (k.loseSession h)

theorem ackTimeoutExpires (k : CommandKept P) (h : P s) (opened : s.link.session.state = .opened) :
    P s.ackTimeoutExpires := by
  unfold State.ackTimeoutExpires
  split
  · exact k.retransmit _ _ h opened
  · exact k.enterLost h

/-! ## Jobs and symbols -/

theorem enterGated (k : CommandKept P) {j i : Job} (h : P s) (active : s.engine.active = some j)
    (origin : i.origin = j.origin) (reserved : i.reserved = j.reserved) : P (s.enterGated i) := by
  unfold State.enterGated
  split
  · exact k.endActive _ (k.updateActive h active origin reserved)
  · exact k.updateActive h active origin reserved

theorem settled (k : CommandKept P) {j i : Job} (h : P s) (active : s.engine.active = some j)
    (origin : i.origin = j.origin) (reserved : i.reserved = j.reserved) : P (s.settled i) := by
  unfold State.settled
  split
  · split
    · exact k.updateActive h active origin reserved
    · exact k.enterGated h active origin reserved
  · exact k.updateActive h active origin reserved

theorem symbolStart (k : CommandKept P) (p : PortId) (h : P s) : P (s.symbolStart p) := by
  unfold State.symbolStart
  split
  · exact h
  next j active =>
    split
    · split
      · exact k.updateActive h active rfl rfl
      · split
        · exact h
        · exact k.enterGated h active rfl rfl
    · exact h

theorem discardSample (k : CommandKept P) (p : PortId) (h : P s) : P (s.discardSample p) := by
  unfold State.discardSample
  split
  · exact h
  next j active =>
    split
    · exact k.updateActive h active rfl rfl
    · exact h

theorem symbolCut (k : CommandKept P) (p : PortId) (h : P s) : P (s.symbolCut p) :=
  k.wakeEngine (k.symbolStart p (k.discardSample p h))

theorem afterSample (k : CommandKept P) {j i onward : Job} (h : P s) (active : s.engine.active = some j)
    (origin : i.origin = j.origin) (reserved : i.reserved = j.reserved) (origin' : onward.origin = j.origin)
    (reserved' : onward.reserved = j.reserved) : P (s.afterSample i onward) := by
  unfold State.afterSample
  split
  · exact k.completeOk h active origin reserved
  · exact k.updateActive h active origin' reserved'

theorem judgeSample (k : CommandKept P) (p : PortId) (c : SymClass) (code : Code) (h : P s) :
    P (s.judgeSample p c code) := by
  unfold State.judgeSample
  split
  · exact h
  next j active =>
    split
    · split
      · exact h
      · exact h
      · split
        · exact k.afterSample h active rfl rfl rfl rfl
        · exact k.updateActive h active rfl rfl
    · exact h

theorem deliverSymbol (k : CommandKept P) (p : PortId) (first second : Level) (code : Code)
    (closed : s.closed p = true) (h : P s) : P (s.deliverSymbol p first second code) := by
  have delivered : P (s.modPort p fun _ => ((s.port p).deliver s.timebase p
      ((s.port p).tap.classInProgress first second)).1) := k.modPort p _ h fun l => l.deliver closed _ _ _
  exact k.wakeEngine (k.symbolStart p (k.judgeSample p _ code (k.raiseAll _ delivered)))

/-! ## Commands -/

theorem answered (k : CommandKept P) (h : P s) : Answers P s.answered := .next (k.arbitrate h)

theorem execLineTransition (k : CommandKept P) (p : PortId) (source target : Level) (offset : Nat) (h : P s) :
    Answers P (execLineTransition p source target offset s) := by
  have line : ∀ {t : State}, P t → P (t.setLine p target) := fun ht => k.modPort p _ ht fun l => l.congr rfl rfl rfl
  unfold Machine.execLineTransition
  split
  · exact .next h
  · split
    · simp only
      have moved := line (k.elapse (min offset symbolTicks - (s.port p).tap.position) h)
      split
      · split
        · exact k.answered (k.symbolCut p (k.modPort p _ moved fun l => l.congr rfl rfl rfl))
        · exact .next moved
      · exact .next (k.modPort p _ moved fun l => l.congr rfl rfl rfl)
    · exact .next (line h)

theorem execSymbolDelivery (k : CommandKept P) (p : PortId) (first second : Level) (code : Code) (h : P s) :
    Answers P (execSymbolDelivery p first second code s) := by
  unfold Machine.execSymbolDelivery
  split
  case isTrue closed =>
    have closed' : (s.elapseTo p symbolTicks).closed p = true := by
      rw [State.closed, State.elapseTo, State.port_elapse]
      exact closed
    exact k.answered (k.deliverSymbol p first second code closed' (k.elapse _ h))
  case isFalse => exact .next h

theorem execPowerSenseChange (k : CommandKept P) (p : PortId) (good : Bool) (h : P s) :
    Answers P (execPowerSenseChange p good s) := by
  unfold Machine.execPowerSenseChange
  split
  · exact .next h
  · exact .next (k.modPort p _ h fun l => l.powerSense good)

theorem execSenseTimerExpiry (k : CommandKept P) (p : PortId) (h : P s) : Answers P (execSenseTimerExpiry p s) := by
  unfold Machine.execSenseTimerExpiry
  split
  case h_1 => exact .next h
  case h_2 run running =>
    have running' : ((s.elapse (senseTicks - run)).port p).cond.sense.isSome = true := by
      rw [State.port_elapse]
      simp [Port.elapse, CondRec.elapse, running]
    exact k.answered (k.conditionChanged p _ (k.modPort p _ (k.elapse _ h) fun l => l.senseExpires running' _))

theorem execDrainExpiry (k : CommandKept P) (p : PortId) (h : P s) : Answers P (execDrainExpiry p s) := by
  unfold Machine.execDrainExpiry
  split
  case h_1 => exact .next h
  case h_2 left running =>
    have running' : ((s.elapse left).port p).cond.drain.isSome = true := by
      rw [State.port_elapse]
      simp [Port.elapse, CondRec.elapse, running]
    exact .next (k.modPort p _ (k.elapse left h) fun l => l.drainExpires running')

theorem execBudgetWindowExpiry (k : CommandKept P) (p : PortId) (h : P s) :
    Answers P (execBudgetWindowExpiry p s) := by
  unfold Machine.execBudgetWindowExpiry
  split
  · exact .next h
  · exact .next (k.modPort p _ (k.elapse _ h) fun l => l.reloadBudget)

theorem execDwellStep (k : CommandKept P) (p : PortId) (h : P s) : Answers P (execDwellStep p s) := by
  unfold Machine.execDwellStep
  split
  case isTrue below =>
    have below' : ((s.elapse (s.port p).cond.dwellLeft).port p).cond.dwell < 65535 := by
      rw [State.port_elapse]
      exact below
    exact k.answered (k.raise _ (k.modPort p _ (k.elapse _ h) fun l => l.stepDwell below'))
  case isFalse => exact .next h

theorem execHoldTimerExpiry (k : CommandKept P) (p : PortId) (h : P s) : Answers P (execHoldTimerExpiry p s) := by
  unfold Machine.execHoldTimerExpiry
  split
  case h_1 left state _ =>
    have state' : ((s.elapse left).port p).switch.state ≠ .isolated := by
      rw [State.port_elapse]
      simp [Port.elapse, SwitchRec.elapse, state]
    exact .next (k.closing p _ (k.elapse left h) rfl rfl fun l => l.1.trying state')
  all_goals exact .next h

theorem execSettleTimerExpiry (k : CommandKept P) (p : PortId) (h : P s) : Answers P (execSettleTimerExpiry p s) := by
  unfold Machine.execSettleTimerExpiry
  split
  case h_1 left _ _ =>
    refine k.answered (k.wakeEngine (k.ports _ (k.elapse left h) fun q l => ?_))
    rw [get_vmap]
    exact Port.Law.settled l
  all_goals exact .next h

theorem execEngineSettleEnd (k : CommandKept P) (h : P s) : Answers P (execEngineSettleEnd s) := by
  unfold Machine.execEngineSettleEnd
  split
  case h_1 => exact .next h
  case h_2 j active =>
    split
    case h_1 phase =>
      have active' : (s.elapse j.settleLeft).engine.active = some (j.elapse j.settleLeft) := by
        simp [State.elapse, Engine.elapse, active]
      exact k.answered (k.wakeEngine (k.settled (k.elapse _ h) active' (by simp [Job.elapse, phase])
        (by simp [Job.elapse, phase])))
    all_goals exact .next h

theorem execSampleEnd (k : CommandKept P) (code : Code) (h : P s) : Answers P (execSampleEnd code s) := by
  unfold Machine.execSampleEnd
  split
  case h_1 => exact .next h
  case h_2 j active =>
    split
    case h_1 left phase _ =>
      have active' : (s.elapse left).engine.active = some (j.elapse left) := by
        simp [State.elapse, Engine.elapse, active]
      exact k.answered (k.afterSample (k.elapse left h) active' (by simp [Job.addSample, Job.elapse, phase])
        (by simp [Job.addSample, Job.elapse, phase]) (by simp [Job.addSample, Job.elapse, phase])
        (by simp [Job.addSample, Job.elapse, phase]))
    all_goals exact .next h

theorem execGateTimeout (k : CommandKept P) (h : P s) : Answers P (execGateTimeout s) := by
  unfold Machine.execGateTimeout
  split
  · exact .next h
  · split
    · exact k.answered (k.wakeEngine (k.endActive _ (k.elapse _ h)))
    · exact .next h
    · exact .next h

theorem execPassFloorExpiry (k : CommandKept P) (h : P s) : Answers P (execPassFloorExpiry s) := by
  unfold Machine.execPassFloorExpiry
  split
  · simp only
    split
    · exact k.answered (k.wakeEngine (k.survey _ (k.elapse _ h)))
    · exact .next (k.elapse _ h)
    · exact .next (k.elapse _ h)
  · exact .next h

theorem execPaceTick (k : CommandKept P) (h : P s) : Answers P (execPaceTick s) := by
  unfold Machine.execPaceTick
  split
  · exact .next h
  · exact k.answered (k.wakeEngine (k.survey _ (k.elapse _ h)))

theorem execHoldbackExpiry (k : CommandKept P) (entry : EntryId) (h : P s) :
    Answers P (execHoldbackExpiry entry s) := by
  unfold Machine.execHoldbackExpiry
  split
  · exact .next h
  · exact .next (k.reactions _ (k.elapse _ h))

theorem execGapTimerExpiry (k : CommandKept P) (h : P s) : Answers P (execGapTimerExpiry s) := by
  unfold Machine.execGapTimerExpiry
  split
  case h_2 | h_3 | h_4 => exact .next (k.discardFrame (k.elapse _ h))
  all_goals exact .next h

theorem execFrameSent (k : CommandKept P) (h : P s) : Answers P (execFrameSent s) := by
  unfold Machine.execFrameSent
  split
  · exact .next h
  · exact k.answered (k.frameLeaves _ h)

theorem execAckTimerExpiry (k : CommandKept P) (h : P s) : Answers P (execAckTimerExpiry s) := by
  unfold Machine.execAckTimerExpiry
  split
  case h_1 opened _ => exact k.answered (k.ackTimeoutExpires (k.elapse _ h) opened)
  all_goals exact .next h

theorem execLinkWatchdogExpiry (k : CommandKept P) (h : P s) : Answers P (execLinkWatchdogExpiry s) := by
  unfold Machine.execLinkWatchdogExpiry
  split
  case h_1 => exact k.answered (k.enterLost (k.elapse _ h))
  all_goals exact .next h

theorem execSoftReset (k : CommandKept P) (h : P s) : Answers P (execSoftReset s) := by
  unfold Machine.execSoftReset
  split
  · exact k.answered (k.softReset h)
  · exact .next h

/-- Every command is answered with a next state that keeps the law. -/
theorem exec (k : CommandKept P) (c : Instr) (h : P s) : Answers P (exec c s) := by
  cases c with
  | fullReset straps => exact .next (k.fullReset straps _ _ h)
  | softReset => exact k.execSoftReset h
  | lineTransition p source target offset => exact k.execLineTransition p source target offset h
  | symbolDelivery p first second code => exact k.execSymbolDelivery p first second code h
  | powerSenseChange p good => exact k.execPowerSenseChange p good h
  | senseTimerExpiry p => exact k.execSenseTimerExpiry p h
  | drainExpiry p => exact k.execDrainExpiry p h
  | budgetWindowExpiry p => exact k.execBudgetWindowExpiry p h
  | dwellStep p => exact k.execDwellStep p h
  | overcurrentTrip p => exact k.answered (k.overcurrent p h)
  | holdTimerExpiry p => exact k.execHoldTimerExpiry p h
  | settleTimerExpiry p => exact k.execSettleTimerExpiry p h
  | jobStart => exact k.answered (k.wakeEngine h)
  | engineSettleEnd => exact k.execEngineSettleEnd h
  | sampleEnd code => exact k.execSampleEnd code h
  | gateTimeout => exact k.execGateTimeout h
  | passFloorExpiry => exact k.execPassFloorExpiry h
  | paceTick => exact k.execPaceTick h
  | holdbackExpiry entry => exact k.execHoldbackExpiry entry h
  | gapTimerExpiry => exact k.execGapTimerExpiry h
  | frameDiscard => exact .next (k.discardFrame h)
  | unknownKind kind tag payload => exact k.answered (k.takeFrame _ h)
  | ack seq payload => exact k.answered (k.takeAck seq payload h)
  | frameSent => exact k.execFrameSent h
  | ackTimerExpiry => exact k.execAckTimerExpiry h
  | linkWatchdogExpiry => exact k.execLinkWatchdogExpiry h
  | byteReceived byte framingOk => exact k.answered (k.receiveByte byte framingOk h)
  | hello tag payload | status tag payload | reset tag payload | portSet tag payload | portGet tag payload
  | portJoin tag payload | portIsolate tag payload | counts tag payload | surveyPut tag payload
  | surveyGet tag payload | surveyRun tag payload | surveyHold tag payload | surveyResume tag payload
  | surveyStop tag payload | spot tag payload | spotCancel tag payload | monitorSet tag payload
  | monitorGet tag payload | reactionSet tag payload | reactionGet tag payload | reactionArm tag payload
  | summaryGet tag payload | summaryClear tag payload | notifyMask tag payload =>
    exact k.answered (k.takeRequest _ tag payload h)

/-- A step keeps the law: the command in front runs on the queue's rest, and an empty queue lets time pass. -/
theorem step (k : CommandKept P) {t : State} (rest : ∀ {s : State} (q : List Instr), P s → P { s with pending := q })
    (h : P s) (hstep : step s = .next t) : P t := by
  unfold Machine.step at hstep
  split at hstep
  · cases hstep
    exact k.elapse 1 h
  · next c waiting _ =>
    obtain ⟨u, hu, kept⟩ := k.exec c (rest waiting h)
    rw [hu] at hstep
    cases hstep
    exact kept

end CommandKept

end Sys2Proof.Machine
end

section
/-! The laws of ports, places, set-stamps, link and session as instances of the dispatch, and the obligations that
follow: O3, O39, O40 and O60. -/
namespace Sys2Proof.Machine

/-! ## The queue of commands (O3) -/

theorem pending_inert (q : List Instr) : Inert fun s => s.pending = q where
  frame h _ _ _ pending _ := pending.trans h
  latch o h := (State.latch_keeps _ o).pending.trans h
  handleResult c h := (State.handleResult_keeps _ c).pending.trans h

theorem pending_kept (q : List Instr) : CommandKept fun s => s.pending = q where
  toRequestKept := (pending_inert q).requestKept (fun _ _ h _ => h) (fun _ h => h) (fun h => h)
  elapse _ h := h
  arbitrate h := (State.arbitrate_pending _).trans h
  endActive := (pending_inert q).endActive
  completeOk h _ _ _ := (pending_inert q).completeOk (fun _ h => h) _ h
  overcurrent := (pending_inert q).overcurrent
  fullReset _ _ _ h := h
  resetBlocks h := h
  receiver _ h := h
  countDiscard h := h
  frameArrives h := h
  queueReply _ h _ := h
  reply _ _ _ h _ _ := h
  holdFrame _ h _ := h
  holdAgain _ _ h _ _ := h
  reportEnds h := h
  replyEnds h := h
  acknowledge _ h _ := h
  loseSession h := h
  retransmit _ _ h _ := h

/-- Settles O3: no command reads or writes the queue that its step has set aside. -/
theorem everyCommandAnswers : Obligations.EveryCommandAnswers :=
  fun c s => (pending_kept s.pending).exec c rfl

/-! ## The ports (O39) -/

theorem State.PortsLaw.requestKept : RequestKept State.PortsLaw where
  ports _ l law := fun p => law p (l p)
  wakeEngine l := (State.wakeEngine_keeps _).portsLaw l
  raise o l := l.raise o
  isolatePort p cause l := l.isolatePort p cause
  updateActive l _ _ _ := l.congr rfl
  survey _ l := l.congr rfl
  stopSurvey l := (State.stopSurvey_keeps _).portsLaw l
  spots _ l _ := l.congr rfl
  monitors _ _ l := l.congr rfl
  reactions _ l := l.congr rfl
  flags _ _ l _ := l.congr rfl
  openSession _ l := l.congr rfl
  resetPending l := l.congr rfl

theorem State.atReset_portsLaw (straps : Straps) (powerGood : Vector Bool 8) (lines : Vector Level 8) :
    (State.atReset straps powerGood lines).PortsLaw := by
  intro p
  rw [State.port_atReset]
  exact Port.atReset_law _ _ _

theorem State.PortsLaw.commandKept : CommandKept State.PortsLaw where
  toRequestKept := State.PortsLaw.requestKept
  elapse d l := fun p => by
    rw [State.port_elapse]
    exact (l p).elapse d
  arbitrate l := l.congr (State.arbitrate_ports _)
  endActive status l := (State.endActive_keeps _ status).portsLaw l
  completeOk l _ _ _ := l.completeOk _
  overcurrent p l := l.overcurrent p
  fullReset straps powerGood lines _ := (State.atReset_portsLaw straps powerGood lines).congr rfl
  resetBlocks {s} l := fun p => by
    have port : s.resetBlocks.port p = (s.port p).softReset s.timebase := get_vmap ..
    rw [port]
    exact (l p).softReset s.timebase
  receiver _ l := l.congr rfl
  countDiscard l := l.congr rfl
  frameArrives l := l.congr rfl
  queueReply _ l _ := l.congr rfl
  reply _ _ _ l _ _ := l.congr rfl
  holdFrame _ l _ := l.congr rfl
  holdAgain _ _ l _ _ := l.congr rfl
  reportEnds l := l.congr rfl
  replyEnds l := l.congr rfl
  acknowledge _ l _ := l.congr rfl
  loseSession l := l.congr rfl
  retransmit _ _ l _ := l.congr rfl

/-- Settles O39: the two laws of a port stand together through every command. -/
theorem portLawsKept : Obligations.PortLawsKept := by
  intro s t switches classifiers hstep
  have before : s.PortsLaw := fun p => ⟨switches p, classifiers p⟩
  have after : t.PortsLaw := State.PortsLaw.commandKept.step (fun _ l => l.congr rfl) before hstep
  exact ⟨fun p => (after p).1, fun p => (after p).2⟩

/-! ## The places (O40) -/

theorem State.PlaceLaw.congr {s t : State} (l : s.PlaceLaw) (engine : t.engine = s.engine)
    (queue : t.results.queue.length = s.results.queue.length)
    (reservations : t.results.reservations = s.results.reservations) (spots : t.spots = s.spots) : t.PlaceLaw :=
  (l.owes.congr engine queue reservations spots).placeLaw (engine ▸ l.handingOver)

/-- The mark of a hand-over stands as it was: every operation within a completion leaves it. -/
theorem handingOver_inert (b : Bool) : Inert fun s => s.engine.handingOver = b where
  frame h _ _ _ _ mark := mark.trans h
  latch o h := by
    rw [State.latch_eq]
    exact h
  handleResult _ h := h

theorem State.completeOk_handingOver (s : State) (j : Job) : (s.completeOk j).engine.handingOver = false :=
  (handingOver_inert false).wakeEngine rfl

/-- What keeps the places, and keeps the mark of a hand-over down, keeps the law. -/
theorem State.PlaceLaw.of_owes {s t : State} (l : s.PlaceLaw) (owes : s.Owes 0 → t.Owes 0)
    (mark : t.engine.handingOver = false) : t.PlaceLaw := (owes l.owes).placeLaw mark

theorem State.PlaceLaw.requestKept : RequestKept State.PlaceLaw where
  ports _ l _ := l.congr rfl rfl rfl rfl
  wakeEngine l := l.of_owes State.Owes.wakeEngine ((handingOver_inert false).wakeEngine l.handingOver)
  raise o l := l.of_owes (·.raise o) ((handingOver_inert false).raise o l.handingOver)
  isolatePort p cause l :=
    l.of_owes (·.isolatePort p cause) ((handingOver_inert false).isolatePort p cause l.handingOver)
  updateActive l active origin reserved := l.of_owes (·.update active reserved origin) l.handingOver
  survey _ l := l.congr rfl rfl rfl rfl
  stopSurvey l := l.of_owes State.Owes.stopSurvey ((handingOver_inert false).stopSurvey l.handingOver)
  spots _ l few := ⟨l.reservations, l.places, l.parked, l.probe, l.one, l.handingOver, few l.spots⟩
  monitors _ _ l := l.congr rfl rfl rfl rfl
  reactions _ l := l.congr rfl rfl rfl rfl
  flags _ _ l _ := l.congr rfl rfl rfl rfl
  openSession _ l := l.congr rfl (List.length_map _) rfl rfl
  resetPending l := l.congr rfl rfl rfl rfl

/-- An OK job leaves the engine with its reservation, which its record or its release gives back. -/
theorem State.Owes.completeOk {s : State} {j k : Job} (l : s.Owes 0) (active : s.engine.active = some j)
    (origin : k.origin = j.origin) (reserved : k.reserved = j.reserved) : (s.completeOk k).Owes 0 := by
  have held : heldBy (some k) = heldBy (some j) := by simp [heldBy, reserved]
  have leaves : ((s.setActive none).setHandingOver true).Owes (heldBy (some k)) := by
    have left := l.activeLeaves active
    rw [held]
    exact ⟨left.reservations, left.places, left.parked, left.probe, left.one, left.spots⟩
  have probe : k.isProbe = true → k.reserved = false := by
    intro hk
    rw [reserved]
    refine l.probe j active ?_
    simpa only [Job.isProbe, origin] using hk
  have delivered := State.Owes.deliverOk k probe leaves
  refine State.Owes.wakeEngine ?_
  exact ⟨delivered.reservations, delivered.places, delivered.parked, delivered.probe, delivered.one, delivered.spots⟩

theorem sendFirstResult_length {seq : Byte} {l rest : List ResultRec} {r : ResultRec}
    (h : sendFirstResult seq l = some (r, rest)) : rest.length = l.length := by
  induction l generalizing rest with
  | nil => cases h
  | cons q l ih =>
    unfold sendFirstResult at h
    split at h
    · cases h
      rfl
    · obtain ⟨⟨r', rest'⟩, found, heq⟩ := Option.map_eq_some_iff.mp h
      cases heq
      simp [ih found]

/-- A report that is sent keeps its place in the queue. -/
theorem State.arbitrate_queue_length (s : State) : s.arbitrate.results.queue.length = s.results.queue.length := by
  unfold State.arbitrate State.startReport State.retransmitHead
  split
  · rfl
  · split
    · rfl
    · split
      · simp only
        split <;> rfl
      · split
        · simp only
          split
          · rfl
          · split
            case h_1 found => exact sendFirstResult_length found
            case h_2 => rfl
        · rfl

theorem State.arbitrate_reservations (s : State) : s.arbitrate.results.reservations = s.results.reservations := by
  rw [State.arbitrate_eq]

theorem State.arbitrate_spots (s : State) : s.arbitrate.spots = s.spots := by
  rw [State.arbitrate_eq]

/-- An engine with no job and an empty queue keep the places. -/
theorem State.placeLaw_of_idle {s : State} (engine : s.engine = .idle) (queue : s.results.queue = [])
    (reservations : s.results.reservations = 0) (spots : s.spots = []) : s.PlaceLaw := by
  constructor <;> simp [engine, queue, reservations, spots, Engine.idle, heldBy]

/-- Time moves the active job on, and leaves its origin and its reservation. -/
theorem Job.elapse_origin (d : Nat) (j : Job) : (j.elapse d).origin = j.origin := by
  unfold Job.elapse
  split <;> rfl

theorem Job.elapse_reserved (d : Nat) (j : Job) : (j.elapse d).reserved = j.reserved := by
  unfold Job.elapse
  split <;> rfl

theorem State.elapse_engine_of_idle {s : State} (h : s.engine.active = none) (d : Nat) :
    (s.elapse d).engine = s.engine := by
  have none : s.engine.active.map (Job.elapse d) = s.engine.active := by simp [h]
  change { s.engine with active := s.engine.active.map (Job.elapse d) } = s.engine
  rw [none]

theorem State.elapse_engine_of_active {s : State} {j : Job} (h : s.engine.active = some j) (d : Nat) :
    (s.elapse d).engine = { s.engine with active := some (j.elapse d) } := by
  simp [State.elapse, Engine.elapse, h]

theorem State.PlaceLaw.elapse {s : State} (l : s.PlaceLaw) (d : Nat) : (s.elapse d).PlaceLaw := by
  cases active : s.engine.active with
  | none => exact l.congr (State.elapse_engine_of_idle active d) rfl rfl rfl
  | some j =>
    have updated := l.owes.update active (Job.elapse_reserved d j) (Job.elapse_origin d j)
    exact (updated.congr (State.elapse_engine_of_active active d) rfl rfl rfl).placeLaw l.handingOver

theorem State.PlaceLaw.commandKept : CommandKept State.PlaceLaw where
  toRequestKept := State.PlaceLaw.requestKept
  elapse d l := l.elapse d
  arbitrate l := l.congr (State.arbitrate_engine _) (State.arbitrate_queue_length _) (State.arbitrate_reservations _)
    (State.arbitrate_spots _)
  endActive status l := l.of_owes (·.endActive status) ((handingOver_inert false).endActive status l.handingOver)
  completeOk l active origin reserved :=
    l.of_owes (·.completeOk active origin reserved) (State.completeOk_handingOver _ _)
  overcurrent p l := l.of_owes (·.overcurrent p) ((handingOver_inert false).overcurrent p l.handingOver)
  fullReset _ _ _ _ := State.placeLaw_of_idle rfl rfl rfl rfl
  resetBlocks _ := State.placeLaw_of_idle rfl rfl rfl rfl
  receiver _ l := l.congr rfl rfl rfl rfl
  countDiscard l := l.congr rfl rfl rfl rfl
  frameArrives l := l.congr rfl rfl rfl rfl
  queueReply _ l _ := l.congr rfl rfl rfl rfl
  reply _ _ _ l _ _ := l.congr rfl rfl rfl rfl
  holdFrame _ l _ := l.congr rfl rfl rfl rfl
  holdAgain _ _ l _ _ := l.congr rfl rfl rfl rfl
  reportEnds l := l.congr rfl rfl rfl rfl
  replyEnds l := l.congr rfl rfl rfl rfl
  acknowledge _ l _ := ⟨l.reservations, (Nat.add_le_add_right (List.length_filter_le _ _) _).trans l.places, l.parked,
    l.probe, l.one, l.handingOver, l.spots⟩
  loseSession l := l.congr rfl (List.length_map _) rfl rfl
  retransmit _ _ l _ := l.congr rfl rfl rfl rfl

/-- Settles O40: every command gives and takes reservations with the jobs and records that hold them. -/
theorem placeLawKept : Obligations.PlaceLawKept :=
  fun _ _ l hstep => State.PlaceLaw.commandKept.step (fun _ l => l.congr rfl rfl rfl rfl) l hstep

end Sys2Proof.Machine
end

section
/-! The laws of the set-stamps (R148), of the link's queues (R161, R162, R174) and of the session (R163) under the
dispatch, and O60. -/
namespace Sys2Proof.Machine

/-! ## Set-stamps -/

theorem State.StampLaw.congr {s t : State} (l : s.StampLaw) (flags : t.summary.flags = s.summary.flags)
    (stamp : t.summary.stamp = s.summary.stamp) : t.StampLaw := by
  intro i f
  rw [flags, stamp]
  exact l i f

theorem Summary.le_nextStamp {u : Summary} (h : u.stamp ≠ 0xFFFFFFFF) : u.stamp.toNat ≤ u.nextStamp.toNat := by
  unfold Summary.nextStamp
  rw [if_neg h]
  bv_omega

/-- The flag of an occurrence takes the new stamp, and the others keep theirs or, at the end of the range, take 0. -/
theorem State.StampLaw.latch {s : State} (l : s.StampLaw) (o : Occurrence) : (s.latch o).StampLaw := by
  cases ho : o.flag with
  | none =>
    rw [State.latch_of_no_flag s ho]
    exact l
  | some sourceFlag =>
    obtain ⟨source, flag⟩ := sourceFlag
    rw [State.latch_of_flag s ho]
    intro i f t ht
    simp only [Summary.take_stamp, Summary.take_flags] at ht ⊢
    split at ht
    · cases ht
      exact le_rfl
    · split at ht
      · obtain ⟨_, -, rfl⟩ := Option.map_eq_some_iff.mp ht
        exact Nat.zero_le _
      · next notEnd => exact (l i f t ht).trans (Summary.le_nextStamp notEnd)

theorem State.stampLaw_of_noFlags {s : State} (h : s.summary.flags = Summary.noFlags) : s.StampLaw := by
  intro i f t ht
  simp [h, Summary.noFlags] at ht

theorem stampLaw_inert : Inert State.StampLaw where
  frame l summary _ _ _ _ := l.congr (by rw [summary]) (by rw [summary])
  latch o l := l.latch o
  handleResult _ l := l.congr rfl rfl

theorem State.StampLaw.commandKept : CommandKept State.StampLaw where
  toRequestKept := stampLaw_inert.requestKept (fun _ _ l old i f t ht => l i f t (old i f t ht))
    (fun _ l => l.congr rfl rfl) (fun l => l.congr rfl rfl)
  elapse _ l := l.congr rfl rfl
  arbitrate l := l.congr (by rw [State.arbitrate_eq]) (by rw [State.arbitrate_eq])
  endActive := stampLaw_inert.endActive
  completeOk l _ _ _ := stampLaw_inert.completeOk (fun _ l => l.congr rfl rfl) _ l
  overcurrent := stampLaw_inert.overcurrent
  fullReset _ _ _ _ := State.stampLaw_of_noFlags rfl
  resetBlocks _ := State.stampLaw_of_noFlags rfl
  receiver _ l := l.congr rfl rfl
  countDiscard l := l.congr rfl rfl
  frameArrives l := l.congr rfl rfl
  queueReply _ l _ := l.congr rfl rfl
  reply _ _ _ l _ _ := l.congr rfl rfl
  holdFrame _ l _ := l.congr rfl rfl
  holdAgain _ _ l _ _ := l.congr rfl rfl
  reportEnds l := l.congr rfl rfl
  replyEnds l := l.congr rfl rfl
  acknowledge _ l _ := l.congr rfl rfl
  loseSession l := l.congr rfl rfl
  retransmit _ _ l _ := l.congr rfl rfl

/-! ## The link's queues -/

theorem State.LinkLaw.congr {s t : State} (l : s.LinkLaw) (replies : t.link.replies = s.link.replies)
    (cache : t.link.cache = s.link.cache) (hold : t.link.hold = s.link.hold)
    (pending : t.link.resetPending = s.link.resetPending) (discarded : t.link.discarded = s.link.discarded) :
    t.LinkLaw := by
  constructor
  · rw [replies]; exact l.replies
  · rw [cache]; exact l.cache
  · rw [hold]; exact l.hold
  · rw [hold, pending]; exact l.held
  · rw [cache]; exact l.tags
  · rw [cache]; exact l.single
  · rw [discarded]; exact l.discarded

theorem linkLaw_inert : Inert State.LinkLaw where
  frame l _ _ link _ _ := l.congr (by rw [link]) (by rw [link]) (by rw [link]) (by rw [link]) (by rw [link])
  latch {s} o l := by
    have link := (s.latch_keeps o).link
    exact l.congr (by rw [link]) (by rw [link]) (by rw [link]) (by rw [link]) (by rw [link])
  handleResult _ l := l.congr rfl rfl rfl rfl rfl

/-- A cache of five loses its oldest entry. -/
theorem trimCache_eq (cache : List CacheEntry) : trimCache cache = if 4 < cache.length then cache.tail else cache := by
  cases cache <;> rfl

theorem trimCache_sublist (cache : List CacheEntry) : (trimCache cache).Sublist cache := by
  rw [trimCache_eq]
  split
  · exact List.tail_sublist _
  · exact List.Sublist.refl _

theorem trimCache_length {cache : List CacheEntry} (h : cache.length ≤ 5) : (trimCache cache).length ≤ 4 := by
  rw [trimCache_eq]
  split
  case isTrue => simpa using h
  case isFalse few => exact Nat.not_lt.mp few

theorem Link.cached_eq_none_iff {l : Link} {kind tag : Byte} (h : tag ≠ 0) :
    l.cached kind tag = none ↔ ∀ c ∈ l.cache, ¬(c.tag = tag ∧ c.kind = kind) := by
  simp only [Link.cached, if_neg h, Option.map_eq_none_iff, List.find?_eq_none, Bool.and_eq_true, decide_eq_true_eq]

/-- A reply that finds its place and no entry of its tag and KIND in the cache (R161, R162). -/
theorem State.LinkLaw.reply {s : State} (l : s.LinkLaw) (kind tag : Byte) (answer : Answer)
    (room : s.link.replies.length < 4) (uncached : s.link.cached kind tag = none) :
    (s.reply kind tag answer).LinkLaw := by
  have replies : (s.link.replies ++ [replyBody kind tag answer]).length ≤ 4 := by simpa using room
  unfold State.reply Link.cacheReply
  by_cases htag : tag = 0
  · simp only [htag, if_true]
    exact ⟨htag ▸ replies, l.cache, l.hold, l.held, l.tags, l.single, l.discarded⟩
  · simp only [htag, if_false]
    let entry : CacheEntry := { tag := tag, kind := kind, body := replyBody kind tag answer }
    have cache : ∀ c ∈ s.link.cache ++ [entry], c.tag ≠ 0 := by
      intro c hc
      rcases List.mem_append.mp hc with old | new
      · exact l.tags c old
      · rw [List.mem_singleton.mp new]
        exact htag
    have single : ((s.link.cache ++ [entry]).map fun c => (c.tag, c.kind)).Nodup := by
      have fresh := (Link.cached_eq_none_iff htag).mp uncached
      simp only [List.map_append, List.map_cons, List.map_nil, List.nodup_append, List.nodup_cons, List.not_mem_nil,
        not_false_eq_true, List.nodup_nil, and_self, List.mem_map, List.mem_singleton]
      refine ⟨l.single, trivial, ?_⟩
      rintro _ ⟨c, hc, rfl⟩ _ rfl heq
      obtain ⟨rfl, rfl⟩ := Prod.mk.inj heq
      exact fresh c hc ⟨rfl, rfl⟩
    exact ⟨replies, trimCache_length (cache := s.link.cache ++ [entry]) (by simpa using Nat.lt_succ_of_le l.cache), l.hold, l.held,
      fun c hc => cache c ((trimCache_sublist _).mem hc), single.sublist ((trimCache_sublist _).map _), l.discarded⟩

/-- The arbiter changes the line and the session alone of the link. -/
theorem State.arbitrate_link (s : State) :
    s.arbitrate.link = { s.link with line := s.arbitrate.link.line, session := s.arbitrate.link.session } := by
  unfold State.arbitrate State.startReport State.retransmitHead
  split
  · rfl
  · split
    · rfl
    · split
      · simp only
        split <;> rfl
      · split
        · simp only
          split
          · rfl
          · split <;> rfl
        · rfl

theorem State.LinkLaw.commandKept : CommandKept State.LinkLaw where
  toRequestKept := linkLaw_inert.requestKept (fun _ _ l _ => l.congr rfl rfl rfl rfl rfl)
    (fun _ l => ⟨l.replies, Nat.zero_le _, l.hold, l.held, by simp [State.openSession, State.returnSent],
      List.nodup_nil, l.discarded⟩)
    (fun l => ⟨l.replies, l.cache, l.hold, fun _ => rfl, l.tags, l.single, l.discarded⟩)
  elapse _ l := l.congr rfl rfl rfl rfl rfl
  arbitrate {s} l := by
    have link := s.arbitrate_link
    exact l.congr (by rw [link]) (by rw [link]) (by rw [link]) (by rw [link]) (by rw [link])
  endActive := linkLaw_inert.endActive
  completeOk l _ _ _ := linkLaw_inert.completeOk (fun _ l => l.congr rfl rfl rfl rfl rfl) _ l
  overcurrent := linkLaw_inert.overcurrent
  fullReset _ _ _ _ := by constructor <;> simp [State.atReset, Link.atReset]
  resetBlocks _ := by constructor <;> simp [State.resetBlocks, Link.softReset]
  receiver _ l := l.congr rfl rfl rfl rfl rfl
  countDiscard l := ⟨l.replies, l.cache, l.hold, l.held, l.tags, l.single, addUpTo_le _ _ l.discarded⟩
  frameArrives l := l.congr rfl rfl rfl rfl rfl
  queueReply body l room := ⟨by simpa [Link.queueReply] using room, l.cache, l.hold, l.held, l.tags, l.single, l.discarded⟩
  reply kind tag answer l room uncached := l.reply kind tag answer room uncached
  holdFrame f l pending := by
    simp only [State.modLink, Link.holdFrame]
    split
    case isTrue room =>
      exact ⟨l.replies, l.cache, by simpa [holdPlaces] using room, fun _ => pending, l.tags, l.single, l.discarded⟩
    case isFalse => exact ⟨l.replies, l.cache, l.hold, l.held, l.tags, l.single, addUpTo_le _ _ l.discarded⟩
  holdAgain held l₀ l pending few :=
    ⟨l.replies, l.cache, few.trans l₀.hold, fun _ => pending, l.tags, l.single, l.discarded⟩
  reportEnds l := l.congr rfl rfl rfl rfl rfl
  replyEnds l := ⟨by simpa using l.replies.trans (Nat.le_succ 4), l.cache, l.hold, l.held, l.tags, l.single, l.discarded⟩
  acknowledge _ l _ := l.congr rfl rfl rfl rfl rfl
  loseSession l := l.congr rfl rfl rfl rfl rfl
  retransmit _ _ l _ := l.congr rfl rfl rfl rfl rfl

/-! ## SENT reports -/

@[simp] theorem SendState.number_waiting : SendState.waiting.number = none := rfl

@[simp] theorem SendState.number_sent (seq : Byte) : (SendState.sent seq).number = some seq := rfl

/-- Two lists of event records with the same numbers, and two of result records, have the same SENT reports. -/
theorem State.sentNumbers_congr {s t : State}
    (events : t.summary.events.filterMap (fun e => e.send.number) = s.summary.events.filterMap fun e => e.send.number)
    (queue : t.results.queue.filterMap (fun r => r.send.number) = s.results.queue.filterMap fun r => r.send.number) :
    t.sentNumbers = s.sentNumbers := by
  unfold State.sentNumbers
  rw [events, queue]

theorem joinWaiting_numbers {source : SourceId} {flag : FlagId} {note : Option Nat} {stamp : Word32}
    {events joined : List EventRec} (h : joinWaiting source flag note stamp events = some joined) :
    joined.filterMap (fun e => e.send.number) = events.filterMap fun e => e.send.number := by
  induction events generalizing joined with
  | nil => cases h
  | cons e rest ih =>
    unfold joinWaiting at h
    split at h
    · cases h
      rfl
    · obtain ⟨rest', found, rfl⟩ := Option.map_eq_some_iff.mp h
      simp only [List.filterMap_cons, ih found]

/-- A new record, and one that takes another occurrence, is WAITING. -/
theorem recordEvent_numbers (now : Word32) (source : SourceId) (flag : FlagId) (note : Option Nat) (u : Summary) :
    (recordEvent now source flag note u).events.filterMap (fun e => e.send.number) =
      u.events.filterMap fun e => e.send.number := by
  unfold recordEvent
  split
  case h_1 joined => exact joinWaiting_numbers joined
  case h_2 => simp

theorem State.latch_sentNumbers (s : State) (o : Occurrence) : (s.latch o).sentNumbers = s.sentNumbers := by
  cases ho : o.flag with
  | none => rw [State.latch_of_no_flag s ho]
  | some sourceFlag =>
    obtain ⟨source, flag⟩ := sourceFlag
    rw [State.latch_of_flag s ho]
    refine State.sentNumbers_congr ?_ rfl
    by_cases admitted : s.summary.Admits source flag
    · rw [Summary.take_of_admits _ _ admitted, recordEvent_numbers, Summary.stamped_events]
    · rw [Summary.take_events_of_not_admits _ _ admitted]

theorem dropOldestSurvey_numbers {queue rest : List ResultRec} (h : dropOldestSurvey queue = some rest) :
    rest.filterMap (fun r => r.send.number) = queue.filterMap fun r => r.send.number := by
  induction queue generalizing rest with
  | nil => cases h
  | cons r queue ih =>
    unfold dropOldestSurvey at h
    split at h
    case isTrue discardable =>
      cases h
      have waiting : r.send.number = none := by
        unfold ResultRec.discardable at discardable
        split at discardable <;> simp_all
      rw [List.filterMap_cons, waiting]
    case isFalse =>
      obtain ⟨rest', found, rfl⟩ := Option.map_eq_some_iff.mp h
      simp only [List.filterMap_cons, ih found]

/-- A record joins the queue WAITING, and only a WAITING one is discarded for it. -/
theorem disposeResult_numbers (c : Completion) (id : Word16) (now : Word32) (vs : List Verdict) (u : Results)
    (lost : Nat) :
    (disposeResult c id now vs u lost).1.queue.filterMap (fun r => r.send.number) =
      u.queue.filterMap fun r => r.send.number := by
  unfold disposeResult
  split
  · simp [Completion.record]
  · split
    · unfold placeUnreserved
      split
      · simp [Completion.record]
      · split
        case h_1 found => simp [Completion.record, dropOldestSurvey_numbers found]
        case h_2 => rfl
    · rfl
    · rfl

theorem State.handleResult_sentNumbers (s : State) (c : Completion) :
    (s.handleResult c).1.sentNumbers = s.sentNumbers := by
  refine State.sentNumbers_congr rfl ?_
  have tested := (Results.takeId_test c s.results).1
  have disposed := disposeResult_numbers c s.results.nextId s.timebase ((s.results.takeId c.job.report).test c).2
    ((s.results.takeId c.job.report).test c).1 s.survey.lost
  exact disposed.trans (by rw [tested])

/-! ## The return of SENT records -/

theorem mergeInto_waiting {merged : List EventRec} {e : EventRec} (h : ∀ k ∈ merged, k.send = .waiting)
    (he : e.send = .waiting) : ∀ k ∈ mergeInto merged e, k.send = .waiting := by
  induction merged with
  | nil => simpa [mergeInto] using he
  | cons older rest ih =>
    obtain ⟨first, others⟩ := List.forall_mem_cons.mp h
    unfold mergeInto
    split
    · exact List.forall_mem_cons.mpr ⟨first, others⟩
    · exact List.forall_mem_cons.mpr ⟨first, ih others⟩

theorem returnEvents_waiting (events : List EventRec) : ∀ e ∈ returnEvents events, e.send = .waiting := by
  have merges : ∀ (returned merged : List EventRec), (∀ k ∈ returned, k.send = .waiting) → (∀ k ∈ merged, k.send = .waiting) →
      ∀ k ∈ returned.foldl mergeInto merged, k.send = .waiting := by
    intro returned
    induction returned with
    | nil => exact fun _ _ h => h
    | cons e returned ih =>
      intro merged hfrom hmerged
      obtain ⟨he, hrest⟩ := List.forall_mem_cons.mp hfrom
      exact ih _ hrest (mergeInto_waiting hmerged he)
  refine merges _ _ ?_ (by simp)
  simp

/-- No report is SENT once all have returned (R94, R154). -/
theorem State.returnSent_sentNumbers (s : State) : s.returnSent.sentNumbers = [] := by
  have events : (returnEvents s.summary.events).filterMap (fun e => e.send.number) = [] := by
    refine List.filterMap_eq_nil_iff.mpr fun e he => ?_
    rw [returnEvents_waiting _ e he]
    rfl
  have queue : (s.results.queue.map fun r => { r with send := .waiting }).filterMap (fun r => r.send.number) = [] := by
    simp
  unfold State.sentNumbers State.returnSent
  rw [events, queue, List.append_nil]

/-! ## The session -/

theorem State.SessionLaw.congr {s t : State} (l : s.SessionLaw) (session : t.link.session = s.link.session)
    (sent : t.sentNumbers = s.sentNumbers) : t.SessionLaw := by
  constructor
  · rw [session, sent]; exact l.opened
  · rw [session, sent]; exact l.notOpened

/-- An OPEN session may change anything but its window while no more reports are SENT. -/
theorem State.SessionLaw.of_opened {s t : State} (l : s.SessionLaw) (before : s.link.session.state = .opened)
    (state : t.link.session.state = .opened) (window : t.link.session.window = s.link.session.window)
    (sent : t.sentNumbers.length ≤ s.sentNumbers.length) : t.SessionLaw :=
  ⟨fun _ => window ▸ sent.trans (l.opened before), fun h => absurd state h⟩

/-- A session at rest, with no report SENT. -/
theorem State.sessionLaw_of_rest {s : State} (sent : s.sentNumbers = [])
    (rest : s.link.session.state ≠ .opened → s.link.session.ackTimer = none ∧ s.link.session.watchdog = none ∧
      s.link.session.retransmit = []) : s.SessionLaw :=
  ⟨fun _ => by simp [sent], fun h => ⟨sent, rest h⟩⟩

theorem sessionLaw_inert : Inert State.SessionLaw where
  frame l summary queue link _ _ :=
    l.congr (by rw [link]) (State.sentNumbers_congr (by rw [summary]) (by rw [queue]))
  latch {s} o l := by
    have link := (s.latch_keeps o).link
    exact l.congr (by rw [link]) (State.latch_sentNumbers _ o)
  handleResult c l := l.congr rfl (State.handleResult_sentNumbers _ c)

theorem sendFirstEvent_numbers {seq : Byte} {events rest : List EventRec} {e : EventRec}
    (h : sendFirstEvent seq events = some (e, rest)) :
    (rest.filterMap fun e => e.send.number).length = (events.filterMap fun e => e.send.number).length + 1 := by
  induction events generalizing rest with
  | nil => cases h
  | cons k events ih =>
    unfold sendFirstEvent at h
    split at h
    case isTrue waiting =>
      cases h
      simp [waiting]
    case isFalse =>
      obtain ⟨⟨e', rest'⟩, found, heq⟩ := Option.map_eq_some_iff.mp h
      cases heq
      cases hk : k.send.number <;> simp [hk, ih found]

theorem sendFirstResult_numbers {seq : Byte} {queue rest : List ResultRec} {r : ResultRec}
    (h : sendFirstResult seq queue = some (r, rest)) :
    (rest.filterMap fun r => r.send.number).length = (queue.filterMap fun r => r.send.number).length + 1 := by
  induction queue generalizing rest with
  | nil => cases h
  | cons k queue ih =>
    unfold sendFirstResult at h
    split at h
    case isTrue waiting =>
      cases h
      simp [waiting]
    case isFalse =>
      obtain ⟨⟨r', rest'⟩, found, heq⟩ := Option.map_eq_some_iff.mp h
      cases heq
      cases hk : k.send.number <;> simp [hk, ih found]

theorem State.windowOpen_iff (s : State) :
    s.windowOpen = true ↔ s.link.session.state = .opened ∧ s.sentNumbers.length < s.link.session.window := by
  simp [State.windowOpen]

/-- A report is started within the window alone. -/
theorem State.SessionLaw.startReport {s : State} (l : s.SessionLaw) (h : s.windowOpen = true) :
    s.startReport.SessionLaw := by
  obtain ⟨opened, room⟩ := s.windowOpen_iff.mp h
  unfold State.startReport
  simp only
  split
  case h_1 e events found =>
    have sent := sendFirstEvent_numbers found
    refine ⟨fun _ => ?_, fun closed => absurd opened closed⟩
    simp only [State.sentNumbers, List.length_append] at room
    change (events.filterMap (fun e => e.send.number) ++ s.results.queue.filterMap fun r => r.send.number).length ≤
      s.link.session.window
    rw [List.length_append, sent]
    omega
  case h_2 =>
    split
    case h_1 r queue found =>
      have sent := sendFirstResult_numbers found
      refine ⟨fun _ => ?_, fun closed => absurd opened closed⟩
      simp only [State.sentNumbers, List.length_append] at room
      change (s.summary.events.filterMap (fun e => e.send.number) ++ queue.filterMap fun r => r.send.number).length ≤
        s.link.session.window
      rw [List.length_append, sent]
      omega
    case h_2 => exact l

/-- The retransmit list is empty outside OPEN, so only an OPEN session sends a report again. -/
theorem State.SessionLaw.arbitrate {s : State} (l : s.SessionLaw) : s.arbitrate.SessionLaw := by
  unfold State.arbitrate
  split
  · exact l
  · split
    · exact l.congr rfl rfl
    · split
      case h_1 seq rest listed =>
        have opened : s.link.session.state = .opened := by
          by_contra closed
          obtain ⟨-, -, -, none⟩ := l.notOpened closed
          simp [none] at listed
        unfold State.retransmitHead
        simp only
        split
        · exact l.of_opened opened opened rfl le_rfl
        · exact l.of_opened opened opened rfl le_rfl
      case h_2 =>
        split
        case isTrue h => exact l.startReport h
        case isFalse => exact l

theorem State.SessionLaw.frameArrives {s : State} (l : s.SessionLaw) : s.frameArrives.SessionLaw := by
  by_cases opened : s.link.session.state = .opened
  · exact l.of_opened opened (by simp [State.frameArrives, Session.frameArrives, opened])
      (by simp [State.frameArrives, Session.frameArrives, opened]) le_rfl
  · exact l.congr (by simp [State.frameArrives, Session.frameArrives, opened]) rfl

theorem State.ackTimerStart_of_none {s : State} (h : s.sentNumbers = []) : s.ackTimerStart = none := by
  simp [State.ackTimerStart, h]

theorem State.SessionLaw.commandKept : CommandKept State.SessionLaw where
  toRequestKept := sessionLaw_inert.requestKept (fun _ _ l _ => l.congr rfl rfl)
    (fun {s} _ _ => State.sessionLaw_of_rest
      (State.returnSent_sentNumbers (s.modLink fun l => { l with cache := [] })) fun closed => absurd rfl closed)
    (fun l => l.congr rfl rfl)
  elapse _ l := ⟨l.opened, fun closed => by
    obtain ⟨sent, ack, watchdog, list⟩ := l.notOpened closed
    exact ⟨sent, by simp [State.elapse, Link.elapse, ack], by simp [State.elapse, Link.elapse, watchdog], list⟩⟩
  arbitrate l := l.arbitrate
  endActive := sessionLaw_inert.endActive
  completeOk l _ _ _ := sessionLaw_inert.completeOk (fun _ l => l.congr rfl rfl) _ l
  overcurrent := sessionLaw_inert.overcurrent
  fullReset _ _ _ _ := State.sessionLaw_of_rest rfl fun _ => ⟨rfl, rfl, rfl⟩
  resetBlocks _ := State.sessionLaw_of_rest rfl fun _ => ⟨rfl, rfl, rfl⟩
  receiver _ l := l.congr rfl rfl
  countDiscard l := l.congr rfl rfl
  frameArrives l := l.frameArrives
  queueReply _ l _ := l.congr rfl rfl
  reply kind tag answer l _ _ := by
    refine l.congr ?_ rfl
    unfold State.reply Link.cacheReply
    simp only [State.modLink_link]
    split <;> rfl
  holdFrame f l _ := by
    refine l.congr ?_ rfl
    unfold Link.holdFrame
    simp only [State.modLink_link]
    split <;> rfl
  holdAgain _ _ l _ _ := l.congr rfl rfl
  reportEnds l := ⟨l.opened, fun closed => by
    obtain ⟨sent, -, watchdog, list⟩ := l.notOpened closed
    exact ⟨sent, State.ackTimerStart_of_none sent, watchdog, list⟩⟩
  replyEnds l := l.congr rfl rfl
  acknowledge _ l opened := l.of_opened opened opened rfl (by
    simp only [State.sentNumbers, State.acknowledge, State.modSession_summary, State.modSession_results,
      List.length_append]
    exact Nat.add_le_add (List.filter_sublist.filterMap _).length_le (List.filter_sublist.filterMap _).length_le)
  loseSession {s} _ := State.sessionLaw_of_rest (State.returnSent_sentNumbers (s.modSession Session.lose))
    fun _ => ⟨rfl, rfl, rfl⟩
  retransmit _ _ l opened := l.of_opened opened opened rfl le_rfl

/-- Settles O60: each of the three laws by itself stands through every command. -/
theorem summaryAndLinkLawsKept : Obligations.SummaryAndLinkLawsKept :=
  ⟨fun _ _ l hstep => State.StampLaw.commandKept.step (fun _ l => l.congr rfl rfl) l hstep,
    fun _ _ l hstep => State.LinkLaw.commandKept.step (fun _ l => l.congr rfl rfl rfl rfl rfl) l hstep,
    fun _ _ l hstep => State.SessionLaw.commandKept.step (fun _ l => l.congr rfl rfl) l hstep⟩

end Sys2Proof.Machine
end

section
/-! The block as a whole: the step and its queue (O1), the passing of time (O2), the values at the two resets (O4, O5)
and the laws there (O6). -/
namespace Sys2Proof.Machine

/-- Settles O1. -/
theorem stepRunsFrontCommand : Obligations.StepRunsFrontCommand := by
  constructor
  · intro c rest s h
    simp only [step, h]
  · intro s h
    simp only [step, h]

/-! ## The passing of time -/

theorem SwitchState.closed_iff (w : SwitchState) : w.closed = true ↔ w = .probing ∨ w = .joined := by
  cases w <;> simp [SwitchState.closed]

theorem State.elapse_timebase_toNat (s : State) (d : Nat) :
    (s.elapse d).timebase.toNat = (s.timebase.toNat + (s.subMs + d) / 2000) % 2 ^ 32 := by
  change (s.timebase + BitVec.ofNat 32 ((s.subMs + d) / 2000)).toNat = _
  simp only [BitVec.toNat_add, BitVec.toNat_ofNat, Nat.add_mod_mod]

theorem HalfCell.hold_eq (line : Level) (d : Nat) (h : HalfCell) :
    h.hold line d =
      match line with
      | .high => { h with high := h.high + d }
      | .low => { h with low := h.low + d }
      | .flat => { h with flat := h.flat + d } := by
  cases line <;> rfl

/-- In SETTLING what is left of the settle interval runs down. -/
theorem Job.elapse_of_settling {j : Job} (h : j.phase = .settling) (d : Nat) :
    j.elapse d = { j with settleLeft := j.settleLeft - d } := by
  simp only [Job.elapse, h]

/-- In SAMPLING the sample in flight moves. -/
theorem Job.elapse_of_sampling {j : Job} (h : j.phase = .sampling) (d : Nat) :
    j.elapse d = { j with sample := j.sample.elapse d } := by
  simp only [Job.elapse, h]

/-- In GATED the gate wait used rises. -/
theorem Job.elapse_of_gated {j : Job} (h : j.phase = .gated) (d : Nat) :
    j.elapse d = { j with gateWait := min (j.gateTimeout * ticksPerMs) (j.gateWait + d) } := by
  simp only [Job.elapse, h]

/-- Time runs a timed sample down and no other. -/
theorem Sample.elapse_of_not_timed {m : Sample} (h : ∀ left, m ≠ .timed left) (d : Nat) : m.elapse d = m := by
  cases m with
  | idle | symbol => rfl
  | timed left => exact absurd rfl (h left)

/-- Settles O2. -/
theorem timePasses : Obligations.TimePasses := by
  intro d s
  refine ⟨s.elapse_timebase_toNat d, rfl, fun p => ?port, fun idle => State.elapse_engine_of_idle idle d,
    fun j active => ?job, fun i => get_vmap .., rfl⟩
  case port =>
    rw [State.port_elapse]
    simp only [Port.elapse, Tap.elapse, SwitchState.closed_iff, HalfCell.hold_eq]
    rfl
  case job =>
    have engine := State.elapse_engine_of_active active d
    refine ⟨fun phase => ?_, fun left phase sample => ?_, fun phase sample => ?_, fun phase => ?_⟩
    · rw [engine, Job.elapse_of_settling phase]
    · rw [engine, Job.elapse_of_sampling phase, sample]
      rfl
    · rw [engine, Job.elapse_of_sampling phase, Sample.elapse_of_not_timed sample, ← active]
    · rw [engine, Job.elapse_of_gated phase]

/-! ## Full reset -/

/-- The condition record at full reset runs its sense timer on a closed switch with power-sense LOW. -/
theorem CondRec.atReset_sense (joinMode good : Bool) :
    (CondRec.atReset joinMode good).sense = if joinMode = true ∧ good = false then some 0 else none := by
  cases joinMode <;> cases good <;> rfl

/-- Settles O4. -/
theorem fullResetValues : Obligations.FullResetValues := by
  intro straps s
  refine ⟨_, rfl, rfl, rfl, fun p => ?port, rfl, fun i => ?slot, rfl, rfl, rfl, rfl, rfl, rfl, rfl, rfl, rfl, rfl, rfl,
    rfl, rfl, rfl, rfl, rfl, rfl, fun m => ?monitor, fun i => ?reaction, fun i f => ?flag, rfl, fun i => ?mask, rfl, rfl,
    rfl, rfl, rfl, rfl, rfl, rfl, rfl, rfl, rfl⟩
  case port =>
    intro r
    have port : r = Port.atReset straps.joinMode (s.port p).powerGood (s.port p).line := by
      refine (State.port_atReset straps _ _ p).trans ?_
      rw [get_vmap, get_vmap]
      rfl
    rw [port]
    exact ⟨rfl, rfl, rfl, rfl, rfl, rfl, rfl, rfl, rfl, rfl, rfl, rfl, rfl, rfl, rfl, CondRec.atReset_sense _ _, rfl, rfl,
      rfl, rfl⟩
  all_goals simp [State.atReset, Survey.atReset, Results.atReset, Monitor.atReset, MonitorPort.inside, Summary.atReset,
    Summary.noFlags]

/-- Settles O6: each law's own case of a full reset. -/
theorem lawsHoldAtReset : Obligations.LawsHoldAtReset := by
  intro straps powerGood lines s
  have ports : s.PortsLaw := State.atReset_portsLaw straps powerGood lines
  refine ⟨fun p => (ports p).1, fun p => (ports p).2, State.atReset_alertLaw straps powerGood lines,
    State.placeLaw_of_idle rfl rfl rfl rfl, State.stampLaw_of_noFlags rfl, ?link,
    State.sessionLaw_of_rest rfl fun _ => ⟨rfl, rfl, rfl⟩⟩
  constructor <;> simp [s, State.atReset, Link.atReset]

/-! ## Soft reset -/

/-- The reply to RESET on the line is the one whose end resets (R173). -/
theorem Link.resetReplyOnLine_of_reply {l : Link} {tag : Byte} {rest : List (List Byte)} {f : LineFrame}
    (pending : l.resetPending = true) (line : l.line = some f) (reply : f.report = false)
    (replies : l.replies = okReply 0x03 tag [] :: rest) : l.resetReplyOnLine = true := by
  simp [Link.resetReplyOnLine, pending, line, reply, replies, isResetReply, okReply, byteAt]

theorem execSoftReset_of_reply {s : State} (h : s.link.resetReplyOnLine = true) :
    exec .softReset s = .next (executeHeld s.link.hold s.resetBlocks).arbitrate := if_pos h

theorem execFrameSent_of_reply {s : State} {f : LineFrame} (line : s.link.line = some f)
    (h : s.link.resetReplyOnLine = true) :
    exec .frameSent s = .next (executeHeld s.link.hold s.resetBlocks).arbitrate := by
  change execFrameSent s = _
  simp only [execFrameSent, line, State.frameLeaves, h, if_true, State.answered]
  rfl

theorem State.port_resetBlocks (s : State) (p : PortId) :
    s.resetBlocks.port p = (s.port p).softReset s.timebase := get_vmap ..

/-- The tap at soft reset hunts with its gate closed and its counters at 0; on a closed switch its timing is FREE. -/
theorem Tap.softReset_fields (closed : Bool) (t : Tap) :
    (t.softReset closed).recog = .hunting ∧ (t.softReset closed).trafficGate = false ∧
      (t.softReset closed).counters = .zero ∧ (closed = true → (t.softReset closed).timing = .free) := by
  cases closed <;> simp [Tap.softReset, Tap.switchCloses, Tap.beginSymbol]

/-- Settles O5: both commands run the same reset, whose blocks are read off field by field. -/
theorem softResetValues : Obligations.SoftResetValues := by
  intro tag rest f s pending line reply replies
  have ends := Link.resetReplyOnLine_of_reply pending line reply replies
  refine ⟨s.resetBlocks, execSoftReset_of_reply ends, execFrameSent_of_reply line ends, rfl, rfl, rfl, rfl,
    fun p => ?port, rfl, rfl, rfl, rfl, rfl, rfl, rfl, rfl, rfl, rfl, rfl, rfl, rfl, rfl, rfl, rfl, rfl, rfl, rfl,
    fun m => ?monitor, fun i => ?reaction, fun i g => ?flag, rfl, rfl, rfl, rfl⟩
  case port =>
    obtain ⟨recog, gate, counters, timing⟩ := Tap.softReset_fields (s.port p).switch.state.closed (s.port p).tap
    obtain ⟨condition, cause, entry, dwell, level, active, quiet, drain, sense, quietGate⟩ :=
      CondRec.softReset_fields s.timebase (s.port p).switch.state.closed (s.port p).powerGood (s.port p).params
        (s.port p).cond
    simp only [SwitchState.closed_iff] at timing condition cause sense
    rw [State.port_resetBlocks]
    exact ⟨rfl, rfl, rfl, recog, gate, counters, timing, condition, cause, entry, dwell, level, active, quiet, drain,
      sense, rfl, rfl, quietGate, SwitchRec.softReset_eq _ _⟩
  case monitor => exact get_vmap ..
  case reaction => exact get_vmap ..
  case flag => simp [State.resetBlocks, Summary.softReset, Summary.noFlags]

end Sys2Proof.Machine
end

section
/-! The frame check (R7), the recogniser step by step and over whole frames (1.4): O7 and O8. -/
namespace Sys2Proof.Machine

/-! ## The frame check -/

/-- The bits of a byte, most significant first. -/
def byteBits (b : Byte) : List Bool := [7, 6, 5, 4, 3, 2, 1, 0].map fun i => b.getLsbD i

theorem checkByte_eq (r : Word16) (b : Byte) : checkByte r b = (byteBits b).foldl checkBit r := by
  simp only [checkByte, byteBits, List.map_cons, List.map_nil]

/-- The check over bytes is the check over their bits. -/
theorem frameCheck_eq (covered : List Byte) : frameCheck covered = (covered.flatMap byteBits).foldl checkBit 0xFFFF := by
  simp only [List.foldl_flatMap, frameCheck, ← checkByte_eq]

theorem Receiver.checkMatches_iff {rx : Receiver} {hi lo : Byte} (h : rx.check = [hi, lo]) :
    rx.checkMatches = true ↔ hi ++ lo = frameCheck (BitVec.ofNat 8 rx.len :: rx.body) := by
  simp only [Receiver.checkMatches, h, checkValue]
  exact decide_eq_true_iff

/-! ## The recogniser over several classes -/

theorem runRecogniser_append (limit : Nat) (cs ds : List SymClass) (r : Recogniser) :
    runRecogniser limit (cs ++ ds) r =
      ((runRecogniser limit ds (runRecogniser limit cs r).1).1,
        (runRecogniser limit cs r).2 ++ (runRecogniser limit ds (runRecogniser limit cs r).1).2) := by
  induction cs generalizing r with
  | nil => rfl
  | cons c cs ih => simp [runRecogniser, ih]

/-- One run after another, each with its known result. -/
theorem runRecogniser_trans {limit : Nat} {cs ds : List SymClass} {r r' r'' : Recogniser} {is js : List Indication}
    (first : runRecogniser limit cs r = (r', is)) (second : runRecogniser limit ds r' = (r'', js)) :
    runRecogniser limit (cs ++ ds) r = (r'', is ++ js) := by
  rw [runRecogniser_append, first, second]

/-- The recogniser in PREAMBLE with `n` symbols counted. -/
def Recogniser.counting (n : Nat) : Recogniser := { Recogniser.hunting with state := .preamble, preambleCount := n }

theorem addUpTo_eq_min {limit n : Nat} (h : n ≤ limit) : addUpTo limit n = min limit (n + 1) := by
  unfold addUpTo
  split <;> omega

theorem runRecogniser_counting (limit n k : Nat) (h : k ≤ 4) :
    runRecogniser limit (List.replicate n .one) (.counting k) =
      (.counting (min 4 (k + n)), List.replicate n .nothing) := by
  induction n generalizing k with
  | zero => simp [runRecogniser, h]
  | succ n ih =>
    have counted : recogStep limit .one (.counting k) = (.counting (min 4 (k + 1)), .nothing) := by
      simp only [recogStep, Recogniser.counting, recogPreamble, addUpTo_eq_min h]
    rw [List.replicate_succ, runRecogniser, counted]
    simp only [ih _ (Nat.min_le_left _ _), List.replicate_succ]
    congr 2
    omega

/-- Four or more preamble symbols from HUNT (R8). -/
theorem runRecogniser_preamble (limit n : Nat) (h : 4 ≤ n) :
    runRecogniser limit (List.replicate n .one) .hunting = (.counting 4, List.replicate n .nothing) := by
  obtain ⟨n, rfl⟩ : ∃ m, n = m + 1 := ⟨n - 1, by omega⟩
  have first : recogStep limit .one .hunting = (.counting 1, .nothing) := rfl
  rw [List.replicate_succ, runRecogniser, first]
  simp only [runRecogniser_counting limit n 1 (by omega), List.replicate_succ]
  congr 2
  omega

/-- The recogniser in BODY after the whole bytes `body`: it holds the last two, and its check runs over the others. -/
def Recogniser.inBody (body : List Byte) : Recogniser :=
  { state := .body, preambleCount := 4, delimPos := 8, byteCount := body.length, bitPos := 0, byteInProgress := 0
    held := body.drop (body.length - 2), runningCheck := frameCheck (body.take (body.length - 2)) }

theorem runRecogniser_startDelimiter (limit : Nat) :
    runRecogniser limit startDelimiter (.counting 4) =
      (.inBody [], List.replicate 7 .nothing ++ [.startCompletion]) := by
  simp [runRecogniser, startDelimiter, Recogniser.counting, recogStep, recogPreamble, recogStart, Recogniser.inBody,
    Recogniser.hunting, frameCheck, List.replicate]

/-! ## Bytes -/

/-- The next bit of a byte joins the bits before it. -/
theorem shiftIn (b : Byte) (k : Nat) :
    (b >>> (k + 1)) <<< 1 ||| (if b.getLsbD k then 1 else 0) = b >>> k := by
  refine BitVec.eq_of_getLsbD_eq fun i hi => ?_
  rcases Nat.eq_zero_or_pos i with rfl | positive
  · cases hb : b.getLsbD k <;> simp [hb]
  · have bit : ∀ c : Bool, (if c then (1 : Byte) else 0).getLsbD i = false := by
      intro c
      have : i ≠ 0 := by omega
      cases c <;> simp [this]
    have index : k + 1 + (i - 1) = k + i := by omega
    have shifted : ((b >>> (k + 1)) <<< 1).getLsbD i = (b >>> k).getLsbD i := by
      simp [hi, index, Nat.not_lt.mpr positive]
    rw [BitVec.getLsbD_or, bit, Bool.or_false, shifted]

/-- The recogniser in BODY with the upper bits of `b`, all but `k`, taken. -/
def Recogniser.withBits (b : Byte) (k : Nat) (r : Recogniser) : Recogniser :=
  { r with byteInProgress := b >>> k, bitPos := 8 - k }

/-- The symbol of a bit (1.3). -/
def bitSymbol (bit : Bool) : SymClass := if bit then .one else .zero

theorem byteSymbols_eq (b : Byte) : byteSymbols b = (byteBits b).map bitSymbol := by
  simp [byteSymbols, byteBits, bitSymbol]

theorem recogStep_bitSymbol {limit : Nat} {r : Recogniser} (state : r.state = .body) (bit : Bool) :
    recogStep limit (bitSymbol bit) r = recogBit limit bit r := by
  cases bit <;> simp [recogStep, state, recogBody, bitSymbol]

/-- A bit before the eighth. -/
theorem recogStep_bit {limit : Nat} {r : Recogniser} (state : r.state = .body) (b : Byte) {k : Nat} (positive : 0 < k)
    (h : k < 8) :
    recogStep limit (bitSymbol (b.getLsbD k)) (r.withBits b (k + 1)) = (r.withBits b k, .nothing) := by
  have notLast : ¬8 - k = 8 := by omega
  have position : 8 - (k + 1) + 1 = 8 - k := by omega
  rw [recogStep_bitSymbol (r := r.withBits b (k + 1)) state]
  simp only [recogBit, Recogniser.withBits, shiftIn b k, position, if_neg notLast]

/-- The eighth bit completes the byte, and the count is compared with the limit (R10, R13). -/
theorem recogStep_lastBit {limit : Nat} {r : Recogniser} (state : r.state = .body) (b : Byte) :
    recogStep limit (bitSymbol (b.getLsbD 0)) (r.withBits b 1) =
      if limit < (completeByte b (r.withBits b 1)).byteCount then (.hunting, .outcome .overlong)
      else (completeByte b (r.withBits b 1), .nothing) := by
  have whole : (b >>> 1) <<< 1 ||| (if b.getLsbD 0 then 1 else 0) = b := shiftIn b 0
  rw [recogStep_bitSymbol (r := r.withBits b 1) state]
  simp only [recogBit, Recogniser.withBits, whole, if_true]
  rfl

/-- A completed byte leaves nothing of the bits that were in progress. -/
theorem completeByte_withBits (b : Byte) (body : List Byte) :
    completeByte b ((Recogniser.inBody body).withBits b 1) = .inBody (body ++ [b]) := by
  rcases List.eq_nil_or_concat body with rfl | ⟨front, b1, rfl⟩
  · rfl
  · rcases List.eq_nil_or_concat front with rfl | ⟨front, b0, rfl⟩
    · rfl
    · simp [completeByte, Recogniser.withBits, Recogniser.inBody, List.take_append, List.drop_append, frameCheck,
        List.take_of_length_le]

/-- A whole byte in BODY, up to its last bit. -/
theorem runRecogniser_byte (limit : Nat) (b : Byte) (body : List Byte) :
    runRecogniser limit (byteSymbols b) (.inBody body) =
      if limit < body.length + 1 then (.hunting, List.replicate 7 .nothing ++ [.outcome .overlong])
      else (.inBody (body ++ [b]), List.replicate 8 .nothing) := by
  have state : (Recogniser.inBody body).state = .body := rfl
  have start : Recogniser.inBody body = (Recogniser.inBody body).withBits b 8 := by
    have none : b >>> 8 = 0 := BitVec.ushiftRight_eq_zero (by omega)
    simp [Recogniser.withBits, none, Recogniser.inBody]
  have count : (Recogniser.inBody (body ++ [b])).byteCount = body.length + 1 := List.length_append
  rw [byteSymbols_eq, start]
  simp only [byteBits, List.map_cons, List.map_nil, runRecogniser, recogStep_bit state b (k := 7) (by omega) (by omega),
    recogStep_bit state b (k := 6) (by omega) (by omega), recogStep_bit state b (k := 5) (by omega) (by omega),
    recogStep_bit state b (k := 4) (by omega) (by omega), recogStep_bit state b (k := 3) (by omega) (by omega),
    recogStep_bit state b (k := 2) (by omega) (by omega), recogStep_bit state b (k := 1) (by omega) (by omega),
    recogStep_lastBit state, completeByte_withBits, count]
  split <;> rfl

/-- The bytes of a body within the frame limit. -/
theorem runRecogniser_bytes (limit : Nat) (bytes body : List Byte) (h : body.length + bytes.length ≤ limit) :
    runRecogniser limit (bytes.flatMap byteSymbols) (.inBody body) =
      (.inBody (body ++ bytes), List.replicate (8 * bytes.length) .nothing) := by
  induction bytes generalizing body with
  | nil => simp [runRecogniser]
  | cons b bytes ih =>
    rw [List.length_cons] at h
    have byte := runRecogniser_byte limit b body
    rw [if_neg (by omega)] at byte
    have rest := ih (body ++ [b]) (by rw [List.length_append, List.length_singleton]; omega)
    rw [List.flatMap_cons, runRecogniser_trans byte rest, List.append_assoc, List.singleton_append,
      List.replicate_append_replicate, List.length_cons]
    congr 2
    omega

/-! ## Whole frames -/

/-- The end delimiter judges the frame (R11). -/
theorem runRecogniser_endDelimiter (limit : Nat) (body : List Byte) :
    runRecogniser limit endDelimiter (.inBody body) =
      (.hunting, List.replicate 7 .nothing ++ [.outcome (judgeFrame (.inBody body))]) := by
  simp [runRecogniser, endDelimiter, Recogniser.inBody, recogStep, recogBody, recogEnding, List.replicate]
  rfl

theorem judgeFrame_of_short {body : List Byte} (h : body.length ≤ 2) : judgeFrame (.inBody body) = .broken :=
  if_pos (Nat.lt_succ_of_le h)

theorem judgeFrame_of_long {covered : List Byte} (hi lo : Byte) (h : covered ≠ []) :
    judgeFrame (.inBody (covered ++ [hi, lo])) = if hi ++ lo = frameCheck covered then .good else .badCheck := by
  have long : ¬(covered.length + 2 < 3) := by
    have := List.length_pos_iff.mpr h
    omega
  simp [judgeFrame, Recogniser.inBody, long, checkValue]

/-- The preamble and the start delimiter. -/
theorem runRecogniser_start (limit preamble : Nat) (h : 4 ≤ preamble) :
    runRecogniser limit (List.replicate preamble .one ++ startDelimiter) .hunting =
      (.inBody [], List.replicate (preamble + 7) .nothing ++ [.startCompletion]) := by
  rw [runRecogniser_trans (runRecogniser_preamble limit preamble h) (runRecogniser_startDelimiter limit),
    ← List.append_assoc, List.replicate_append_replicate]

/-- A whole frame within the limit is judged at its end delimiter and nowhere before. -/
theorem runRecogniser_frame (limit preamble : Nat) (body : List Byte) (h : 4 ≤ preamble) (short : body.length ≤ limit) :
    runRecogniser limit (frameSymbols preamble body) .hunting =
      (.hunting,
        List.replicate (preamble + 7) .nothing ++ [.startCompletion] ++
          List.replicate (8 * body.length + 7) .nothing ++ [.outcome (judgeFrame (.inBody body))]) := by
  have bytes := runRecogniser_bytes limit body [] (by simpa using short)
  rw [frameSymbols, runRecogniser_trans (runRecogniser_trans (runRecogniser_start limit preamble h) bytes)
    (runRecogniser_endDelimiter limit _)]
  simp only [List.append_assoc, List.nil_append, ← List.replicate_append_replicate]

/-- Settles O7: the check bit by bit, its reference values, and the frames by the run over their symbols. -/
theorem framesAreCheckedAndJudged : Obligations.FramesAreCheckedAndJudged := by
  refine ⟨fun covered => frameCheck_eq covered, by decide +kernel, by decide +kernel, fun rx hi lo h => Receiver.checkMatches_iff h,
    fun limit preamble covered hi lo hp hc hl => ?judged, fun limit preamble body hp hb hl => ?broken,
    fun limit preamble body hp hb => ?overlong⟩
  case judged =>
    have length : (covered ++ [hi, lo]).length = covered.length + 2 := List.length_append
    rw [runRecogniser_frame limit preamble _ hp (length ▸ hl), judgeFrame_of_long hi lo hc, length]
  case broken => rw [runRecogniser_frame limit preamble body hp hl, judgeFrame_of_short hb]
  case overlong =>
    rcases List.eq_nil_or_concat body with rfl | ⟨front, last, rfl⟩
    · cases hb
    · have length : front.length = limit := by simpa using hb
      have bytes := runRecogniser_bytes limit front [] (by simp [length])
      have byte := runRecogniser_byte limit last front
      rw [if_pos (by omega)] at byte
      rw [List.concat_eq_append, List.flatMap_append, List.flatMap_singleton, ← List.append_assoc,
        runRecogniser_trans (runRecogniser_trans (runRecogniser_start limit preamble hp) bytes) byte]
      simp only [length, List.append_assoc, ← List.replicate_append_replicate]

/-! ## The recogniser, class by class -/

section
variable {limit : Nat} {c : SymClass} {r : Recogniser}

theorem recogStep_hunt (state : r.state = .hunt) : recogStep limit c r = (recogHunt c, .nothing) := by
  simp only [recogStep, state]

theorem recogStep_preamble (state : r.state = .preamble) : recogStep limit c r = (recogPreamble c r, .nothing) := by
  simp only [recogStep, state]

theorem recogStep_start (state : r.state = .start) : recogStep limit c r = recogStart c r := by
  simp only [recogStep, state]

theorem recogStep_body (state : r.state = .body) : recogStep limit c r = recogBody limit c r := by
  simp only [recogStep, state]

theorem recogStep_ending (state : r.state = .ending) : recogStep limit c r = recogEnding c r := by
  simp only [recogStep, state]

/-- A class that is neither ONE nor a delimiter's ML ends a preamble. -/
theorem recogPreamble_of_other (notOne : c ≠ .one) (notMl : c ≠ .ml) : recogPreamble c r = .hunting := by
  cases c <;> simp_all [recogPreamble]

/-- The eighth bit in BODY, with the byte it completes. -/
theorem recogBit_last {bit : Bool} (position : r.bitPos = 7) :
    recogBit limit bit r =
      let b : Byte := (r.byteInProgress <<< 1) ||| (if bit then 1 else 0)
      if limit < (completeByte b r).byteCount then (.hunting, .outcome .overlong) else (completeByte b r, .nothing) := by
  simp only [recogBit, position, if_true]

theorem recogBit_before {bit : Bool} (position : r.bitPos < 7) :
    recogBit limit bit r =
      ({ r with
         byteInProgress := (r.byteInProgress <<< 1) ||| (if bit then 1 else 0), bitPos := r.bitPos + 1 }, .nothing) := by
  simp only [recogBit, if_neg (show ¬r.bitPos + 1 = 8 by omega)]

theorem completeByte_byteCount (b : Byte) (r : Recogniser) : (completeByte b r).byteCount = r.byteCount + 1 := by
  unfold completeByte
  split <;> rfl

theorem completeByte_of_few (b : Byte) (few : r.held.length < 2) :
    completeByte b r =
      { r with held := r.held ++ [b], byteCount := r.byteCount + 1, bitPos := 0, byteInProgress := 0 } := by
  unfold completeByte
  split
  case h_1 held => simp [held] at few
  case h_2 => rfl

theorem completeByte_of_two (b : Byte) {b0 b1 : Byte} (held : r.held = [b0, b1]) :
    completeByte b r =
      { r with
        runningCheck := checkByte r.runningCheck b0, held := [b1, b], byteCount := r.byteCount + 1, bitPos := 0
        byteInProgress := 0 } := by
  simp [completeByte, held]

/-- ONE and ZERO are the bits of a body. -/
theorem recogBody_of_bit (h : c = .one ∨ c = .zero) : recogBody limit c r = recogBit limit (decide (c = .one)) r := by
  rcases h with rfl | rfl <;> rfl

/-- The four cases of a body bit (R10, R13). -/
theorem recogStep_body_bit (state : r.state = .body) (h : c = .one ∨ c = .zero) :
    let b : Byte := (r.byteInProgress <<< 1) ||| (if c = .one then 1 else 0)
    (r.bitPos < 7 → recogStep limit c r = ({ r with byteInProgress := b, bitPos := r.bitPos + 1 }, .nothing)) ∧
    (r.bitPos = 7 → r.byteCount + 1 ≤ limit → r.held.length < 2 →
      recogStep limit c r =
        ({ r with held := r.held ++ [b], byteCount := r.byteCount + 1, bitPos := 0, byteInProgress := 0 }, .nothing)) ∧
    (∀ b0 b1 : Byte, r.bitPos = 7 → r.byteCount + 1 ≤ limit → r.held = [b0, b1] →
      recogStep limit c r =
        ({ r with
           runningCheck := checkByte r.runningCheck b0, held := [b1, b], byteCount := r.byteCount + 1, bitPos := 0
           byteInProgress := 0 }, .nothing)) ∧
    (r.bitPos = 7 → limit < r.byteCount + 1 → recogStep limit c r = (.hunting, .outcome .overlong)) := by
  have bit : (if decide (c = .one) = true then (1 : Byte) else 0) = if c = .one then 1 else 0 := by simp
  rw [recogStep_body state, recogBody_of_bit h]
  refine ⟨fun before => ?_, fun last room few => ?_, fun b0 b1 last room held => ?_, fun last past => ?_⟩
  · simp only [recogBit_before before, bit]
  · simp only [recogBit_last last, bit, if_neg (Nat.not_lt.mpr room), completeByte_of_few _ few]
  · simp only [recogBit_last last, bit, if_neg (Nat.not_lt.mpr room), completeByte_of_two _ held]
  · simp only [recogBit_last last, bit, completeByte_byteCount, if_pos past]

/-- A class that a delimiter does not expect ends START; JUNK and QUIET break the frame (R9). -/
theorem recogStart_of_other (other : startDelimiter[r.delimPos]? ≠ some c) :
    recogStart c r = if c = .junk ∨ c = .quiet then (.hunting, .outcome .broken) else (.hunting, .nothing) :=
  if_neg other

theorem recogStart_of_match (expected : startDelimiter[r.delimPos]? = some c) (before : r.delimPos < 7) :
    recogStart c r = ({ r with delimPos := r.delimPos + 1 }, .nothing) := by
  simp only [recogStart, if_pos expected, if_neg (show ¬r.delimPos + 1 = 8 by omega)]

theorem recogEnding_of_match (expected : endDelimiter[r.delimPos]? = some c) (before : r.delimPos < 7) :
    recogEnding c r = ({ r with delimPos := r.delimPos + 1 }, .nothing) := by
  simp only [recogEnding, if_pos expected, if_neg (show ¬r.delimPos + 1 = 8 by omega)]

/-- The eighth match of the end delimiter judges the frame. -/
theorem recogEnding_last (last : r.delimPos = 7) : recogEnding .one r = (.hunting, .outcome (judgeFrame r)) := by
  simp [recogEnding, last, endDelimiter]

end

/-- Settles O8, clause by clause: each state's own step, and in BODY and END the byte and the judgement. -/
theorem recogniserSteps : Obligations.RecogniserSteps := by
  refine ⟨rfl, rfl, fun limit c r => ⟨fun state notOne => ?_, fun state one => ?_, fun state few one => ?_,
    fun state ml four => ?_, fun state ml notFour => ?_, fun state notOne notMl => ?_, fun state expected before => ?_,
    fun state other breaks => ?_, fun state other notJunk notQuiet => ?_, fun state zero last => ?_,
    fun state bit => ?_, fun state ml whole => ?_, fun state ml part => ?_, fun state other => ?_,
    fun state expected before => ?_, fun state one last => ⟨fun short => ?_, fun hi lo long held => ?_⟩,
    fun state other => ?_⟩⟩
  · rw [recogStep_hunt state, recogHunt, if_neg notOne]
  · rw [recogStep_hunt state, recogHunt, if_pos one]
  · simp only [recogStep_preamble state, one, recogPreamble, addUpTo_eq_min few]
  · simp only [recogStep_preamble state, ml, recogPreamble, four, if_true]
  · simp only [recogStep_preamble state, ml, recogPreamble, if_neg notFour]
  · rw [recogStep_preamble state, recogPreamble_of_other notOne notMl]
  · rw [recogStep_start state, recogStart_of_match expected before]
  · rw [recogStep_start state, recogStart_of_other other, if_pos breaks]
  · rw [recogStep_start state, recogStart_of_other other, if_neg (not_or.mpr ⟨notJunk, notQuiet⟩)]
  · simp [recogStep_start state, recogStart, zero, last, startDelimiter]
  · obtain ⟨before, few, two, past⟩ := recogStep_body_bit (limit := limit) state bit
    refine ⟨before, few, fun b0 b1 last room held => ?_, past⟩
    rw [two b0 b1 last room held, checkByte_eq]
    rfl
  · simp only [recogStep_body state, ml, recogBody, whole, if_true]
  · simp only [recogStep_body state, ml, recogBody, if_neg part]
  · rw [recogStep_body state]
    rcases other with rfl | rfl | rfl <;> rfl
  · rw [recogStep_ending state, recogEnding_of_match expected before]
  · rw [recogStep_ending state, one, recogEnding_last last, judgeFrame, if_pos short]
  · rw [recogStep_ending state, one, recogEnding_last last, judgeFrame, if_neg (Nat.not_lt.mpr long), held]
    rfl
  · rw [recogStep_ending state, recogEnding, if_neg other]

end Sys2Proof.Machine
end

section
/-! LINE_TRANSITION and SYMBOL_DELIVERY (1.2 to 1.6): O9 and O10. -/
namespace Sys2Proof.Machine

/-! ## Transitions -/

/-- A transition in LOCKED timing, by the range its position lies in (R3). -/
theorem Tap.lockedTransition_eq (t : Tap) :
    t.lockedTransition =
      let nearStart := t.position ≤ 6
      let nearMiddle := 19 ≤ t.position ∧ t.position ≤ 31
      { t with
        position := if nearStart then 0 else if nearMiddle then 25 else if 44 ≤ t.position then 50 else t.position
        first := if nearStart then .fresh else if nearMiddle then t.first.join t.second else t.first
        second := if nearStart ∨ nearMiddle then .fresh else t.second
        midHalf := t.midHalf ||
          (decide (7 ≤ t.position ∧ t.position ≤ 18) || decide (32 ≤ t.position ∧ t.position ≤ 43)) } := by
  have start : edgeTolerance = 6 := rfl
  have middle : halfCellTicks = 25 := rfl
  have finish : symbolTicks = 50 := rfl
  simp only [Tap.lockedTransition, start, middle, finish, Nat.reduceSub, Nat.reduceAdd]
  by_cases nearStart : t.position ≤ 6
  · simp [nearStart, show ¬7 ≤ t.position by omega, show ¬32 ≤ t.position by omega]
  · by_cases nearMiddle : 19 ≤ t.position ∧ t.position ≤ 31
    · simp [nearStart, nearMiddle, show ¬t.position ≤ 18 by omega, show ¬32 ≤ t.position by omega]
    · by_cases nearEnd : 44 ≤ t.position
      · simp [nearStart, nearMiddle, nearEnd, show ¬t.position ≤ 18 by omega, show ¬t.position ≤ 43 by omega]
      · have between : 7 ≤ t.position ∧ t.position ≤ 18 ∨ 32 ≤ t.position ∧ t.position ≤ 43 := by omega
        simp [nearStart, nearMiddle, nearEnd, between]

theorem locksTiming_iff {source target : Level} (h : source ≠ target) :
    locksTiming source target = true ↔ source = .flat ∨ target ≠ .flat := by
  simp [locksTiming, h]

/-- The position of a closed port's tap once the time up to `offset` has passed. -/
theorem Port.elapse_position {r : Port} (closed : r.switch.state.closed = true) {offset : Nat} (inSymbol : offset ≤ 50)
    (position : r.tap.position ≤ 50) : (r.elapse (offset - r.tap.position)).tap.position = max r.tap.position offset := by
  simp only [Port.elapse, Tap.elapse, closed, if_true, symbolTicks]
  omega

/-- Time does not lock or free the timing. -/
theorem Port.elapse_timing (r : Port) (d : Nat) : (r.elapse d).tap.timing = r.tap.timing := by
  simp only [Port.elapse, Tap.elapse]
  split <;> rfl

/-- A transition on a closed port, after the time up to it has passed and the line has its new level. -/
theorem execLineTransition_of_closed {p : PortId} {source target : Level} {offset : Nat} {s : State}
    (closed : s.closed p = true) (line : (s.port p).line = source) (changes : source ≠ target)
    (inSymbol : offset ≤ 50) :
    let e := s.elapse (offset - (s.port p).tap.position)
    exec (.lineTransition p source target offset) s =
      match (s.port p).tap.timing with
      | .free =>
        if locksTiming source target then
          (((e.setLine p target).modPort p fun r => { r with tap := r.tap.lock }).symbolCut p).answered
        else .next (e.setLine p target)
      | .locked => .next ((e.setLine p target).modPort p fun r => { r with tap := r.tap.lockedTransition }) := by
  intro e
  have elapsed : s.elapseTo p offset = e := by
    rw [State.elapseTo, Nat.min_eq_left (show offset ≤ symbolTicks from inSymbol)]
  have timing : ((e.setLine p target).port p).tap.timing = (s.port p).tap.timing := by
    simp only [State.setLine, State.port_modPort_same, e, State.port_elapse, Port.elapse_timing]
  have occurs : ¬((s.port p).line ≠ source ∨ source = target) := by simp [line, changes]
  change execLineTransition p source target offset s = _
  simp only [execLineTransition, if_neg occurs, closed, if_true, elapsed, timing] <;> rfl

/-- Settles O9. -/
theorem lineTransitionTiming : Obligations.LineTransitionTiming := by
  intro p source target offset s position e r fresh both nearStart nearMiddle
  refine ⟨fun h => if_pos h, fun line changes isOpen => ?isOpen, fun closed line changes inSymbol inSymbol' => ?closed⟩
  case isOpen =>
    have occurs : ¬((s.port p).line ≠ source ∨ source = target) := by simp [line, changes]
    change execLineTransition p source target offset s = _
    simp only [execLineTransition, if_neg occurs, isOpen, Bool.false_eq_true, if_false]
    rfl
  case closed =>
    have transition := execLineTransition_of_closed closed line changes inSymbol
    refine ⟨fun free locks => ?_, fun free notFlat flat => ?_, fun locked => ?_⟩
    · rw [transition]
      simp only [free, (locksTiming_iff changes).mpr locks, if_true, State.setLine, State.modPort_modPort]
      rfl
    · have stays : ¬locksTiming source target = true := by
        rw [locksTiming_iff changes]
        simp [notFlat, flat]
      rw [transition]
      simp only [free, if_neg stays]
      rfl
    · have moved : r.tap.position = position := by
        change (e.port p).tap.position = position
        rw [State.port_elapse]
        exact Port.elapse_position closed inSymbol inSymbol'
      rw [transition]
      simp only [locked, State.setLine, State.modPort_modPort]
      change Host.Outcome.next (e.setPort p { r with tap := r.tap.lockedTransition }) = _
      rw [Tap.lockedTransition_eq, moved]
      rfl

/-! ## Symbols -/

theorem HalfCell.level_cases (undecided : Level) (h : HalfCell) :
    let total := h.high + h.low + h.flat
    (total < 2 * h.high → h.level undecided = .high) ∧ (total < 2 * h.low → h.level undecided = .low) ∧
    (total < 2 * h.flat → h.level undecided = .flat) ∧
    (2 * h.high ≤ total → 2 * h.low ≤ total → 2 * h.flat ≤ total → h.level undecided = undecided) := by
  simp only [HalfCell.level]
  refine ⟨fun high => if_pos high, fun low => ?_, fun flat => ?_, fun high low flat => ?_⟩
  · rw [if_neg (by omega), if_pos low]
  · rw [if_neg (by omega), if_neg (by omega), if_pos flat]
  · rw [if_neg (by omega), if_neg (by omega), if_neg (by omega)]

/-- The counters of a tap after a symbol of class `c` with indication `i` (R15). -/
theorem Counters.delivered_eq (c : SymClass) (i : Indication) (k : Counters) :
    (k.junkSymbol c).frameOutcome i =
      { good := if i = .outcome .good then countUp k.good else k.good
        badCheck := if i = .outcome .badCheck then countUp k.badCheck else k.badCheck
        broken := if i = .outcome .broken then countUp k.broken else k.broken
        overlong := if i = .outcome .overlong then countUp k.overlong else k.overlong
        junk := if c = .junk then countUp k.junk else k.junk } := by
  have junk : k.junkSymbol c = { k with junk := if c = .junk then countUp k.junk else k.junk } := by
    unfold Counters.junkSymbol
    split <;> rfl
  rw [junk]
  match i with
  | .nothing | .startCompletion | .outcome .good | .outcome .badCheck | .outcome .broken | .outcome .overlong => rfl

theorem gateAfter_eq (i : Indication) (gate : Bool) :
    gateAfter i gate = decide (i = .startCompletion ∨ (i = .nothing ∧ gate = true)) := by
  cases i <;> simp [gateAfter]

/-- Settles O10: the symbol's level and class, and the order of its delivery. -/
theorem symbolDeliveryEffect : Obligations.SymbolDeliveryEffect := by
  refine ⟨HalfCell.level_cases, ⟨fun _ _ => rfl, rfl, rfl, rfl, rfl, rfl, rfl, rfl, rfl, rfl⟩,
    fun p first second code s => ⟨fun isOpen => ?isOpen, fun closed => ?closed⟩⟩
  case isOpen =>
    change execSymbolDelivery p first second code s = _
    simp only [execSymbolDelivery, isOpen, Bool.false_eq_true, if_false]
  case closed =>
    intro e r c g byClass byFrame up v occurrences
    have delivered : (e.port p).deliver e.timebase p c = (v.port p, occurrences) := by
      simp only [v, State.setPort, State.port_modPort_same]
      simp only [Port.deliver, Tap.deliver, Counters.delivered_eq, gateAfter_eq]
      rfl
    have written : (e.modPort p fun _ => v.port p) = v := by
      simp only [v, State.setPort, State.port_modPort_same]
    have symbol : e.deliverSymbol p first second code = (v.raiseAll occurrences).symbolBoundary p c code := by
      change (fun d : Port × List Occurrence => ((e.modPort p fun _ => d.1).raiseAll d.2).symbolBoundary p c code)
        ((e.port p).deliver e.timebase p c) = _
      rw [delivered]
      simp only [written]
    change execSymbolDelivery p first second code s = _
    simp only [execSymbolDelivery, closed, if_true]
    change (e.deliverSymbol p first second code).answered = _
    rw [symbol]
    rfl

end Sys2Proof.Machine
end

section
/-! The line classifier (chapter 2): O12 on symbols, O13 on power-sense, O14 on its timers, O15 on PORT_SET. -/
namespace Sys2Proof.Machine

/-! ## Entries into a condition -/

theorem CondRec.enter_of_ne_dark {c : Condition} (h : c ≠ .dark) (now : Word32) (cause : EntryCause) (r : CondRec) :
    r.enter now c cause =
      { r with
        condition := c, cause := cause, entryTime := now, dwell := 0, dwellLeft := 20000, quietGate := false } :=
  if_neg h

/-! ## A delivered class, part by part (R19 to R27) -/

theorem CondRec.updateRuns_eq {r : CondRec} (quiet : r.quietRun ≤ 24) (active : r.activeRun ≤ 65535) (c : SymClass) :
    r.updateRuns c =
      let quietRun := if c = .quiet then min 24 (r.quietRun + 1) else 0
      { r with quietRun := quietRun, activeRun := if quietRun = 24 then 0 else min 65535 (r.activeRun + 1) } := by
  simp only [CondRec.updateRuns, quietSymbols, addUpTo_eq_min quiet, addUpTo_eq_min active]

theorem CondRec.updateNoise_eq {q : Params} {r : CondRec} (level : r.noiseLevel ≤ q.noiseCeiling) (c : SymClass) :
    r.updateNoise q c =
      { r with
        noiseLevel := if c = .junk then min q.noiseCeiling (r.noiseLevel + 1) else r.noiseLevel
        drain :=
          if c = .junk ∧ r.noiseLevel = 0 ∧ 0 < q.noiseCeiling then some (q.drainInterval * ticksPerMs)
          else r.drain } := by
  unfold CondRec.updateNoise
  by_cases junk : c = .junk
  · by_cases below : r.noiseLevel < q.noiseCeiling
    · have positive : 0 < q.noiseCeiling := by omega
      simp only [junk, below, true_and, if_true, positive, and_true, Nat.min_eq_right (Nat.succ_le_of_lt below)]
    · have drains : ¬(r.noiseLevel = 0 ∧ 0 < q.noiseCeiling) := by omega
      have full : min q.noiseCeiling (r.noiseLevel + 1) = r.noiseLevel := by omega
      simp only [junk, true_and, if_true, if_neg below, if_neg drains, full]
  · simp only [junk, false_and, if_false]

/-- The one transition of a class outside DARK, by rank: JABBER, then NOISY, then QUIET (table of 2.3). -/
theorem classTransition_eq (ceiling : Nat) (k : Criteria) {r : CondRec} (h : r.condition ≠ .dark) :
    classTransition ceiling k r =
      let calm := r.condition = .unseen ∨ r.condition = .quiet ∨ r.condition = .traffic
      if calm ∨ r.condition = .noisy then
        if k.jabber then some .jabber
        else if calm ∧ k.noise = true then some .noisy
        else if k.quiet = true ∧
            (r.condition = .unseen ∨ r.condition = .traffic ∨ (r.condition = .noisy ∧ r.noiseLevel = 0)) then
          some .quiet
        else none
      else if k.quiet then (if r.noiseLevel = ceiling then some .noisy else some .quiet)
      else none := by
  cases hc : r.condition with
  | dark => exact absurd hc h
  | unseen | quiet | traffic | noisy | jabber => simp [classTransition, hc]

theorem classTransition_ne_dark (ceiling : Nat) (k : Criteria) (r : CondRec) :
    classTransition ceiling k r ≠ some .dark := by
  by_cases h : r.condition = .dark
  · simp [classTransition, h]
  · rw [classTransition_eq ceiling k h]
    simp only
    split_ifs <;> simp

/-- What an OBSERVED entry that may not happen makes of the record. -/
theorem CondRec.enterIf_eq {entered : Option Condition} (h : entered ≠ some .dark) (now : Word32) (r : CondRec) :
    r.enterIf now entered =
      { r with
        condition := entered.getD r.condition
        cause := if entered.isSome then .observed else r.cause
        entryTime := if entered.isSome then now else r.entryTime
        dwell := if entered.isSome then 0 else r.dwell
        dwellLeft := if entered.isSome then 20000 else r.dwellLeft
        quietGate := if entered.isSome then false else r.quietGate } := by
  cases entered with
  | none => rfl
  | some c => exact CondRec.enter_of_ne_dark (fun e => h (congrArg some e)) now .observed r

/-! ## Completions and outcomes (R25, R26, R33) -/

theorem completionEnters_iff (r : CondRec) :
    completionEnters r = true ↔
      r.condition = .unseen ∨ r.condition = .quiet ∨ (r.condition = .noisy ∧ r.noiseLevel = 0) := by
  unfold completionEnters
  split <;> simp_all

theorem CondRec.takeIndication_completion (now : Word32) (q : Params) (r : CondRec) :
    r.takeIndication now q .startCompletion =
      if completionEnters r then (r.enter now .traffic .observed, some .traffic, false) else (r, none, false) := rfl

theorem CondRec.takeIndication_outcome (now : Word32) (q : Params) (r : CondRec) {o : FrameOutcome} (h : o ≠ .good) :
    r.takeIndication now q (.outcome o) = ((r.spendBudget q).1, none, (r.spendBudget q).2) := by
  cases o with
  | good => exact absurd rfl h
  | badCheck | broken | overlong => rfl

/-- Settles O12. -/
theorem classifierTakesSymbols : Obligations.ClassifierTakesSymbols := by
  refine ⟨fun now q c r => ⟨fun dark => if_pos dark, fun notDark quiet active level => ?taken⟩,
    fun now q r => ⟨rfl, rfl, fun enters => ?enters, fun stays => ?stays, fun o bad =>
      ⟨fun spent => ?spent, fun budget more notDark => ?more, fun budget last notDark => ?last⟩⟩⟩
  case taken =>
    intro quietRun quiet' activeRun level' noise jabber calm entered
    have updated := CondRec.updateNoise_eq (q := q) (r := r.updateRuns c) level c
    have transition : classTransition q.noiseCeiling
        (((r.updateRuns c).updateNoise q c).criteria q c) ((r.updateRuns c).updateNoise q c) = entered := by
      rw [updated, CondRec.updateRuns_eq quiet active]
      rw [classTransition_eq _ _ (by exact notDark)]
      simp only [CondRec.criteria, decide_eq_true_eq]
      rfl
    have notDark' : entered ≠ some .dark := transition ▸ classTransition_ne_dark _ _ _
    simp only [CondRec.takeClass, if_neg notDark, transition, CondRec.enterIf_eq notDark']
    rw [updated, CondRec.updateRuns_eq quiet active]
    rfl
  case enters =>
    rw [CondRec.takeIndication_completion, if_pos ((completionEnters_iff r).mpr enters),
      CondRec.enter_of_ne_dark (by decide)]
  case stays =>
    have noEntry : ¬completionEnters r = true := by
      rw [completionEnters_iff]
      rintro (h | h | ⟨h, level⟩) <;> simp [h] at stays
      omega
    rw [CondRec.takeIndication_completion, if_neg noEntry]
  case spent =>
    rw [CondRec.takeIndication_outcome now q r bad, CondRec.spendBudget, if_pos spent]
  case more =>
    have unspent : ¬(q.errorBudget = 0 ∨ r.budgetLeft = 0 ∨ r.condition = .dark) := by
      rintro (h | h | h)
      · omega
      · omega
      · exact notDark h
    rw [CondRec.takeIndication_outcome now q r bad, CondRec.spendBudget, if_neg unspent, if_neg (by omega)]
  case last =>
    have unspent : ¬(q.errorBudget = 0 ∨ r.budgetLeft = 0 ∨ r.condition = .dark) := by
      rintro (h | h | h)
      · omega
      · omega
      · exact notDark h
    rw [CondRec.takeIndication_outcome now q r bad, CondRec.spendBudget, if_neg unspent, if_pos last]

/-! ## Power-sense (R23, R28) -/

theorem CondRec.powerSense_eq (good : Bool) (r : CondRec) :
    r.powerSense good =
      { r with
        sense :=
          if r.condition ≠ .dark then (if good then none else some 0)
          else if r.cause = .observed then (if good then some 0 else none)
          else r.sense } := by
  obtain ⟨condition, cause, _⟩ := r
  by_cases dark : condition = .dark
  · subst dark
    cases cause <;> rfl
  · simp [CondRec.powerSense, dark]

theorem CondRec.senseExpires_of_ne_dark {r : CondRec} (h : r.condition ≠ .dark) (now : Word32) :
    r.senseExpires now =
      ({ r with
         condition := .dark, cause := .observed, entryTime := now, dwell := 0, dwellLeft := 20000, noiseLevel := 0
         drain := none, activeRun := 0, quietRun := 0, sense := none, quietGate := false }, some .dark) :=
  if_neg h

theorem CondRec.senseExpires_of_dark {r : CondRec} (h : r.condition = .dark) (now : Word32) :
    r.senseExpires now =
      ({ r with
         condition := .unseen, cause := .observed, entryTime := now, dwell := 0, dwellLeft := 20000, sense := none
         quietGate := false }, none) :=
  if_pos h

/-- The expiry of a running sense timer. -/
theorem execSenseTimerExpiry_of_running {p : PortId} {s : State} {run : Nat} (h : (s.port p).cond.sense = some run) :
    let e := s.elapse (4000 - run)
    let expired := (e.port p).cond.senseExpires e.timebase
    exec (.senseTimerExpiry p) s =
      .next ((e.setPort p { e.port p with cond := expired.1 }).conditionChanged p expired.2).arbitrate := by
  change execSenseTimerExpiry p s = _
  simp only [execSenseTimerExpiry, h]
  rfl

theorem Port.elapse_condition (r : Port) (d : Nat) : (r.elapse d).cond.condition = r.cond.condition := rfl

theorem State.conditionChanged_none (s : State) (p : PortId) : s.conditionChanged p none = s.quietGateClosed p := rfl

theorem State.conditionChanged_some (s : State) (p : PortId) (c : Condition) :
    s.conditionChanged p (some c) = (s.quietGateClosed p).raise (.condition p c) := State.raiseAll_one _ _

/-- Settles O13. -/
theorem powerSenseIsDebounced : Obligations.PowerSenseIsDebounced := by
  refine ⟨fun p good s => ⟨fun same => if_pos same, fun changes => ?change⟩,
    fun p s => ⟨fun stopped => ?stopped, fun run running => ⟨fun notDark => ?loss, fun dark => ?power⟩⟩⟩
  case change =>
    change execPowerSenseChange p good s = _
    simp only [execPowerSenseChange, if_neg changes, State.modPort_eq_setPort]
    cases closed : (s.port p).switch.state.closed <;> simp [State.closed, closed, CondRec.powerSense_eq]
  case stopped =>
    change execSenseTimerExpiry p s = _
    simp only [execSenseTimerExpiry, stopped]
  case loss =>
    have notDark' : ((s.elapse (4000 - run)).port p).cond.condition ≠ .dark := by
      rwa [State.port_elapse, Port.elapse_condition]
    rw [execSenseTimerExpiry_of_running running]
    simp only [CondRec.senseExpires_of_ne_dark notDark', State.conditionChanged_some]
  case power =>
    have dark' : ((s.elapse (4000 - run)).port p).cond.condition = .dark := by
      rwa [State.port_elapse, Port.elapse_condition]
    rw [execSenseTimerExpiry_of_running running]
    simp only [CondRec.senseExpires_of_dark dark', State.conditionChanged_none]

/-! ## The classifier's timers (R22, R31, R34) -/

theorem CondRec.drainExpires_eq (q : Params) (r : CondRec) :
    r.drainExpires q =
      { r with
        noiseLevel := r.noiseLevel - 1
        drain := if r.noiseLevel ≤ 1 then none else some (q.drainInterval * ticksPerMs) } := by
  have empty : r.noiseLevel - 1 = 0 ↔ r.noiseLevel ≤ 1 := by omega
  simp only [CondRec.drainExpires, empty]

/-- Settles O14. -/
theorem classifierTimersExpire : Obligations.ClassifierTimersExpire := by
  refine ⟨fun p s => ⟨fun stopped => ?drainStopped, fun left running => ?drain, fun stopped => ?windowStopped,
    fun left running => ?window⟩, fun p s => ⟨fun full => if_neg (Nat.not_lt.mpr full), fun below => ?dwell⟩⟩
  case drainStopped =>
    change execDrainExpiry p s = _
    simp only [execDrainExpiry, stopped]
  case drain =>
    change execDrainExpiry p s = _
    simp only [execDrainExpiry, running, State.modPort_eq_setPort, CondRec.drainExpires_eq]
  case windowStopped =>
    change execBudgetWindowExpiry p s = _
    simp only [execBudgetWindowExpiry, stopped]
  case window =>
    change execBudgetWindowExpiry p s = _
    simp only [execBudgetWindowExpiry, running]
    rfl
  case dwell =>
    change execDwellStep p s = _
    simp only [execDwellStep, if_pos below, State.port_modPort_same]
    rfl

/-! ## PORT_SET -/

/-- The classifier's record under a new ceiling (R36). -/
theorem CondRec.newCeiling_eq (now : Word32) (ceiling : Nat) (r : CondRec) :
    let noisy := r.noiseLevel ≠ 0 ∧ ceiling ≤ r.noiseLevel ∧
      (r.condition = .unseen ∨ r.condition = .quiet ∨ r.condition = .traffic)
    r.newCeiling now ceiling =
      ({ r with
         condition := if noisy then .noisy else r.condition
         cause := if noisy then .observed else r.cause
         entryTime := if noisy then now else r.entryTime
         dwell := if noisy then 0 else r.dwell
         dwellLeft := if noisy then 20000 else r.dwellLeft
         noiseLevel := min r.noiseLevel ceiling
         quietGate := if noisy then false else r.quietGate }, if noisy then some .noisy else none) := by
  by_cases met : r.noiseLevel ≠ 0 ∧ ceiling ≤ r.noiseLevel
  · cases condition : r.condition <;>
      simp [CondRec.newCeiling, condition, met.1, met.2, CondRec.enter_of_ne_dark]
  · have noEntry : ¬(r.noiseLevel ≠ 0 ∧ ceiling ≤ r.noiseLevel ∧
        (r.condition = .unseen ∨ r.condition = .quiet ∨ r.condition = .traffic)) := fun h => met ⟨h.1, h.2.1⟩
    simp only [if_neg noEntry, CondRec.newCeiling, met, decide_false]
    cases r.condition <;> rfl

/-- The classifier's record after PORT_SET (R36): `q` are the parameters as written. -/
theorem CondRec.portSet_eq (now : Word32) (payload : List Byte) (q : Params) (r : CondRec) :
    let noisy := writes payload 0 = true ∧ r.noiseLevel ≠ 0 ∧ q.noiseCeiling ≤ r.noiseLevel ∧
      (r.condition = .unseen ∨ r.condition = .quiet ∨ r.condition = .traffic)
    let reload := writes payload 3 = true ∨ writes payload 4 = true
    r.portSet now payload q =
      ({ r with
         condition := if noisy then .noisy else r.condition
         cause := if noisy then .observed else r.cause
         entryTime := if noisy then now else r.entryTime
         dwell := if noisy then 0 else r.dwell
         dwellLeft := if noisy then 20000 else r.dwellLeft
         noiseLevel := if writes payload 0 then min r.noiseLevel q.noiseCeiling else r.noiseLevel
         budgetLeft := if reload then q.errorBudget else r.budgetLeft
         budgetTimer :=
           if reload then (if q.budgetWindow = 0 then none else some (q.budgetWindow * ticksPerSecond))
           else r.budgetTimer
         quietGate := if noisy then false else r.quietGate }, if noisy then some .noisy else none) := by
  by_cases reload : writes payload 3 = true ∨ writes payload 4 = true <;>
    by_cases ceiling : writes payload 0 = true <;>
    simp [CondRec.portSet, reload, ceiling, CondRec.newCeiling_eq, CondRec.reloadBudget]

/-- PORT_SET runs as a request of KIND 0x10 and is answered by the block that owns the ports. -/
theorem exec_portSet (tag : Byte) (payload : List Byte) (s : State) :
    exec (.portSet tag payload) s = s.request 0x10 tag payload := rfl

theorem answerRequest_portSet (tag : Byte) (payload : List Byte) (s : State) :
    answerRequest 0x10 tag payload s = answerPortSet payload s := rfl

/-- The port field of a payload names a port. -/
theorem portAt_of_byteAt {payload : List Byte} {i : Nat} {p : PortId} (h : byteAt payload i = portByte p) :
    portAt payload i = p := by
  simp [portAt, u8, h, toNat_portByte]

theorem u8_of_byteAt {payload : List Byte} {i : Nat} {p : PortId} (h : byteAt payload i = portByte p) :
    u8 payload i = p.val := by
  rw [u8, h, toNat_portByte]

/-- Settles O15. -/
theorem portSetWritesParameters : Obligations.PortSetWritesParameters := by
  intro tag p payload s hexec length port known state named ceiling drain limit hold settle probe retries a r q noisy
    reload v
  have passes : firstFailure (portSetChecks payload a) = none := by
    have state' : (a.port p).switch.state = .isolated ∨ (a.port p).switch.state = .joined := state
    have stateOk : (match (a.port p).switch.state with
        | .isolated => true | .holdoff => false | .probing => false | .joined => true) = true := by
      rcases state' with h | h <;> rw [h]
    have field : ∀ (n : Nat) (ok : Bool), (named n = true → ok = true) → (!writes payload n || ok) = true := by
      intro n ok h
      change (!named n || ok) = true
      cases hn : named n with
      | false => rfl
      | true => simpa using h hn
    simp only [firstFailure_eq_none_iff, portSetChecks, paramCheck, rangeCheck, stateCheck, exactLength, lengthCheck,
      portCheck, within, List.forall_mem_cons, portAt_of_byteAt port]
    refine ⟨by simp [length], by simp [u8_of_byteAt port], by simpa using known, field 0 _ (by simpa using ceiling),
      field 1 _ (by simpa using drain), field 2 _ (by simpa using limit), field 5 _ (by simpa using hold),
      field 6 _ (by simpa using settle), field 7 _ (by simpa using probe), field 8 _ (by simpa using retries), stateOk,
      by simp⟩
  have written : (a.port p).portSet a.timebase payload = (v.port p, if noisy then some .noisy else none) := by
    simp only [v, State.setPort, State.port_modPort_same]
    simp only [Port.portSet, CondRec.portSet_eq]
    rfl
  have stored : (a.modPort p fun _ => v.port p) = v := by
    simp only [v, State.setPort, State.port_modPort_same]
  have carriedOut : a.portSet payload = if noisy then (v.quietGateClosed p).raise (.condition p .noisy)
      else v.quietGateClosed p := by
    simp only [State.portSet, portAt_of_byteAt port, written, stored]
    split
    · exact State.conditionChanged_some v p .noisy
    · rfl
  have answer : answerPortSet payload a = (if noisy then (v.quietGateClosed p).raise (.condition p .noisy)
      else v.quietGateClosed p, .ok []) := by
    rw [answerPortSet, validated_of_passes _ _ passes, carriedOut]
  exact exec_of_executes (exec_portSet ..) hexec ((answerRequest_portSet ..).trans answer)

end Sys2Proof.Machine
end
section
/-! Chapter 3, the value of a job and the engine's look at its sources (R42, R44, R51, R54 to R60, R73 to R79): the
choice for each source, and what the loop of choices does when nothing is ready. -/
namespace Sys2Proof.Machine

/-! ## The value of a job (R51) -/

theorem jobValue_zero (sum : Nat) : jobValue 0 sum = sum := if_pos rfl

theorem jobValue_of_pos {shift : Nat} (sum : Nat) (h : 1 ≤ shift) :
    jobValue shift sum = (sum + 2 ^ (shift - 1)) / 2 ^ shift := if_neg (by omega)

theorem sum_codes_le (codes : List Code) : (codes.map BitVec.toNat).sum ≤ codes.length * 4095 := by
  induction codes with
  | nil => simp
  | cons c cs ih =>
    have bound : c.toNat < 4096 := c.isLt
    simp only [List.map_cons, List.sum_cons, List.length_cons]
    omega

/-- A value does not exceed a bound that the sum keeps, scaled by the shift. -/
theorem jobValue_le {shift sum bound : Nat} (h : sum ≤ bound * 2 ^ shift) : jobValue shift sum ≤ bound := by
  cases shift with
  | zero => simpa [jobValue] using h
  | succ k =>
    rw [jobValue_of_pos sum (by omega)]
    have halves : 2 ^ (k + 1) = 2 * 2 ^ k := by omega
    have positive : 0 < 2 ^ k := Nat.two_pow_pos k
    refine Nat.lt_succ_iff.mp ((Nat.div_lt_iff_lt_mul (Nat.two_pow_pos _)).mpr ?_)
    rw [Nat.succ_mul]
    simp only [Nat.add_sub_cancel]
    omega

/-- Settles O16. -/
theorem jobValueRounds : Obligations.JobValueRounds := by
  refine ⟨jobValue_zero, fun shift sum h => jobValue_of_pos sum h, fun e shift codes he length => ?_⟩
  intro sum
  have total : sum ≤ 2 ^ e * 4095 := length ▸ sum_codes_le codes
  have scale : 2 ^ e ≤ 256 := Nat.pow_le_pow_right (by omega) he
  have least : 1 ≤ 2 ^ shift := Nat.one_le_two_pow
  refine ⟨total, jobValue_le ?_, jobValue_le (by rw [Nat.mul_comm]; exact total)⟩
  calc sum ≤ 1048320 * 1 := by omega
    _ ≤ 1048320 * 2 ^ shift := Nat.mul_le_mul_left _ least

/-! ## When a pass does not end -/

theorem State.noPassEnd_of_not_running {s : State} (h : s.survey.state ≠ .running) : s.NoPassEnd := by
  simp [State.NoPassEnd, State.passEndDue, h]

theorem State.noPassEnd_of_between {s : State} (h : s.survey.inPass = false) : s.NoPassEnd := by
  simp [State.NoPassEnd, State.passEndDue, h]

theorem State.noPassEnd_of_hasSurvey {s : State} (h : s.engine.hasSurvey = true) : s.NoPassEnd := by
  simp [State.NoPassEnd, State.passEndDue, h]

theorem Engine.hasSurvey_eq_false_iff (g : Engine) :
    g.hasSurvey = false ↔ ∀ j : Job, g.active = some j ∨ g.parked = some j → j.isSurvey = false := by
  cases ha : g.active <;> cases hp : g.parked <;> simp [Engine.hasSurvey, ha, hp, or_imp, forall_and]

/-! ## What the choice finds (R54) -/

theorem State.startableSpot_of_head {s : State} {r : SpotRequest} {rest : List SpotRequest} (spots : s.spots = r :: rest)
    (free : s.results.queue.length + s.results.reservations < 16) : s.startableSpot = some (r, rest) := by
  simp only [State.startableSpot, spots, (State.hasFree_iff s).mpr free, if_true]

theorem State.nextChoice_of_spot {s : State} {r : SpotRequest} {rest : List SpotRequest} (probes : s.waitingProbe = none)
    (spot : s.startableSpot = some (r, rest)) : s.nextChoice = some (.spot r rest) := by
  simp only [State.nextChoice, probes, spot]

theorem State.nextChoice_of_parked {s : State} {j : Job} (probes : s.waitingProbe = none)
    (spots : s.startableSpot = none) (parked : s.engine.parked = some j) : s.nextChoice = some (.resume j) := by
  simp only [State.nextChoice, probes, spots, parked]

theorem State.nextChoice_of_offer {s : State} {i : SlotId} {d : SurveyEntry} (probes : s.waitingProbe = none)
    (spots : s.startableSpot = none) (parked : s.engine.parked = none) (offered : s.offer = some (i, d)) :
    s.nextChoice = some (.survey i d) := by
  simp only [State.nextChoice, probes, spots, parked, offered]

theorem State.nextChoice_eq_none {s : State} (probes : s.waitingProbe = none) (spots : s.startableSpot = none)
    (parked : s.engine.parked = none) (offered : s.offer = none) : s.nextChoice = none := by
  simp only [State.nextChoice, probes, spots, parked, offered]

/-- A survey that does not run, or stands between two passes, offers nothing (R73). -/
theorem State.offer_eq_none_of_idle {s : State} (h : s.survey.state ≠ .running ∨ s.survey.inPass = false) :
    s.offer = none := by
  have reached : s.reachedEntry = none := by
    refine if_neg fun ⟨running, inPass, _⟩ => ?_
    rcases h with h | h
    · exact h running
    · simp [h] at inPass
  simp only [State.offer, reached]

theorem State.noPassEnd_of_idle {s : State} (h : s.survey.state ≠ .running ∨ s.survey.inPass = false) : s.NoPassEnd :=
  h.elim State.noPassEnd_of_not_running State.noPassEnd_of_between

/-- The choice resumes the parked job (R60). -/
theorem State.takeChoice_resume (s : State) (j : Job)
    (gate : j.quantity ≠ .sigamp ∨ (s.port j.port).tap.trafficGate = true ∨ j.gateWait < j.gateTimeout * ticksPerMs) :
    s.takeChoice (.resume j) =
      { s with
        engine := Engine.working (Job.settling ((s.port j.port).gateOpen j.quantity) j)
          { s.engine with parked := none } } :=
  State.enterSettling_eq (s.setParked none) j gate

/-- JOB_START is the engine's look at its sources. -/
theorem exec_jobStart (s : State) : exec .jobStart s = .next s.wakeEngine.arbitrate := rfl

theorem State.wakeEngine_of_handingOver {s : State} (h : s.engine.handingOver = true) : s.wakeEngine = s := if_pos h

/-- What `JobStartChooses` says of a look whose outcome is known. -/
theorem exec_jobStart_of_wakeEngine {s t : State} (h : s.wakeEngine = t) :
    s.wakeEngine = t ∧ exec .jobStart s = .next t.arbitrate := ⟨h, by rw [exec_jobStart, h]⟩

/-- Settles O17: one branch for each source of R54, in the order in which the choice asks them. -/
theorem jobStartChooses : Obligations.JobStartChooses := by
  intro s
  refine ⟨exec_jobStart s, State.wakeEngine_of_handingOver, fun mark free => ⟨?probe, fun noProbe => ⟨?spot, ?later⟩⟩⟩
  case probe =>
    intro p noEnd slot lowest closed
    have chosen := State.nextChoice_of_probe s p (State.waitingProbe_eq_some s p slot lowest)
    have taken := State.takeChoice_probe s p closed
    exact exec_jobStart_of_wakeEngine
      ((State.wakeEngine_of_choice s _ mark free noEnd chosen (by rw [taken]; rfl)).trans taken)
  case spot =>
    intro r rest noEnd spots room closed timeout
    have chosen :=
      State.nextChoice_of_spot (State.waitingProbe_eq_none s noProbe) (State.startableSpot_of_head spots room)
    have taken := State.takeChoice_spot s r rest closed timeout
    exact exec_jobStart_of_wakeEngine
      ((State.wakeEngine_of_choice s _ mark free noEnd chosen (by rw [taken]; rfl)).trans taken)
  case later =>
    intro noSpot
    have probes := State.waitingProbe_eq_none s noProbe
    have spots := State.startableSpot_eq_none s noSpot
    refine ⟨fun j noEnd parked gate => ?_, fun i d parked running inPass next => ?_, fun parked stopped => ?_⟩
    · have chosen := State.nextChoice_of_parked probes spots parked
      have taken := State.takeChoice_resume s j gate
      exact exec_jobStart_of_wakeEngine
        ((State.wakeEngine_of_choice s _ mark free noEnd chosen (by rw [taken]; rfl)).trans taken)
    · intro reserved fits closed timeout
      have offered := State.offer_eq_some s i d running inPass free parked next fun reported stall =>
        fits (by simp [reserved, reported, stall])
      have chosen := State.nextChoice_of_offer probes spots parked offered
      have taken := State.takeChoice_survey s i d closed timeout
      exact exec_jobStart_of_wakeEngine
        ((State.wakeEngine_of_choice s _ mark free (State.noPassEnd_of_next s i d next) chosen
          (by rw [taken]; rfl)).trans taken)
    · exact exec_jobStart_of_wakeEngine
        (State.wakeEngine_of_idle s mark free (State.noPassEnd_of_not_running stopped)
          (State.nextChoice_eq_none probes spots parked (State.offer_eq_none_of_idle (.inl stopped))))

/-! ## Preemption and parking (R57, R58) -/

/-- An active job that is no survey job keeps the converter (R59). -/
theorem State.wakeEngine_of_kept {s : State} {j : Job} (mark : s.engine.handingOver = false)
    (active : s.engine.active = some j) (kept : j.isSurvey = false ∨ s.progressPass.preemptorReady = false) :
    s.wakeEngine = s.progressPass := by
  have engine : s.progressPass.engine.active = some j := by rw [State.progressPass_engine, active]
  have stays : ¬(j.isSurvey && s.progressPass.preemptorReady) = true := by
    rcases kept with h | h <;> simp [h]
  simp only [State.wakeEngine, mark, Bool.false_eq_true, if_false, engine, if_neg stays]

/-- A survey job yields to a ready probe or spot, whose choice ends the step (R57). -/
theorem State.wakeEngine_of_preempted {s : State} {j : Job} {c : Choice} (mark : s.engine.handingOver = false)
    (active : s.engine.active = some j) (survey : j.isSurvey = true) (ready : s.preemptorReady = true)
    (chosen : (s.parkActive j).nextChoice = some c)
    (starts : ((s.parkActive j).takeChoice c).engine.active.isSome = true) :
    s.wakeEngine = (s.parkActive j).takeChoice c := by
  have noEnd : s.NoPassEnd := State.noPassEnd_of_hasSurvey (by simp [Engine.hasSurvey, active, survey])
  have parkedKind : (j.park s.survey.policy).isSurvey = true := by
    rw [← survey]; cases s.survey.policy <;> rfl
  have noEndParked : (s.parkActive j).NoPassEnd :=
    State.noPassEnd_of_hasSurvey (by simp [State.parkActive, Engine.hasSurvey, parkedKind])
  have yields : (j.isSurvey && s.preemptorReady) = true := by simp [survey, ready]
  simp only [State.wakeEngine, mark, Bool.false_eq_true, if_false, State.progressPass_of_noPassEnd s noEnd, active,
    if_pos yields]
  exact State.chooseLoop_of_choice 255 _ c rfl noEndParked chosen starts

theorem State.preemptorReady_iff (s : State) :
    s.preemptorReady = true ↔ s.waitingProbe.isSome = true ∨ s.startableSpot.isSome = true := by
  simp [State.preemptorReady]

/-- Settles O20. -/
theorem surveyJobYields : Obligations.SurveyJobYields := by
  intro j s mark active
  refine ⟨fun other noEnd => ?kept, fun survey => ?yields⟩
  case kept =>
    rw [exec_jobStart, State.wakeEngine_of_kept mark active (.inl other), State.progressPass_of_noPassEnd s noEnd]
  case yields =>
    intro parked
    have parkedEq : s.parkActive j = { s with engine := { s.engine with active := none, parked := some parked } } := rfl
    refine ⟨fun p slot lowest closed => ?_, fun noProbe => ⟨fun r rest spots room closed timeout => ?_, fun noSpot => ?_⟩⟩
    · have probe := State.waitingProbe_eq_some s p slot lowest
      have taken := State.takeChoice_probe (s.parkActive j) p closed
      rw [exec_jobStart, State.wakeEngine_of_preempted mark active survey
        ((State.preemptorReady_iff s).mpr (.inl (by rw [probe]; rfl)))
        (State.nextChoice_of_probe (s.parkActive j) p probe) (by rw [taken]; rfl), taken, parkedEq]
      rfl
    · have probes := State.waitingProbe_eq_none s noProbe
      have spot := State.startableSpot_of_head spots room
      have taken := State.takeChoice_spot (s.parkActive j) r rest closed timeout
      rw [exec_jobStart, State.wakeEngine_of_preempted mark active survey
        ((State.preemptorReady_iff s).mpr (.inr (by rw [spot]; rfl)))
        (State.nextChoice_of_spot (s := s.parkActive j) probes spot) (by rw [taken]; rfl), taken, parkedEq]
      rfl
    · have noEnd : s.NoPassEnd := State.noPassEnd_of_hasSurvey (by simp [Engine.hasSurvey, active, survey])
      have nothing : s.progressPass.preemptorReady = false := by
        rw [State.progressPass_of_noPassEnd s noEnd, State.preemptorReady, State.waitingProbe_eq_none s noProbe,
          State.startableSpot_eq_none s noSpot]
        rfl
      rw [exec_jobStart, State.wakeEngine_of_kept mark active (.inr nothing), State.progressPass_of_noPassEnd s noEnd]

end Sys2Proof.Machine
end
section
/-! Chapter 5: the disposal of a completion (R86 to R93), the window monitors (R96 to R99) and MONITOR_SET (R101). -/
namespace Sys2Proof.Machine

/-! ## The discarded record (R92) -/

theorem dropOldestSurvey_of_first (older newer : List ResultRec) {r : ResultRec}
    (kept : ∀ q ∈ older, q.discardable = false) (dropped : r.discardable = true) :
    dropOldestSurvey (older ++ r :: newer) = some (older ++ newer) := by
  induction older with
  | nil => simp [dropOldestSurvey, dropped]
  | cons q older ih =>
    obtain ⟨here, rest⟩ := List.forall_mem_cons.mp kept
    simp [dropOldestSurvey, here, ih rest]

theorem dropOldestSurvey_eq_none {queue : List ResultRec} (kept : ∀ q ∈ queue, q.discardable = false) :
    dropOldestSurvey queue = none := by
  induction queue with
  | nil => rfl
  | cons q queue ih =>
    obtain ⟨here, rest⟩ := List.forall_mem_cons.mp kept
    simp [dropOldestSurvey, here, ih rest]

/-! ## The steps of R86 -/

theorem Results.test_of_no_value {c : Completion} (u : Results) (h : c.value = none) : u.test c = (u, []) := by
  simp only [Results.test, h]

theorem Results.test_of_value {c : Completion} {value : Nat} (u : Results) (h : c.value = some value) :
    u.test c =
      ({ u with monitors := (evaluateMonitors c.job.origin c.job.port c.job.quantity value u.monitors).1 }.updateAlert,
        (evaluateMonitors c.job.origin c.job.port c.job.quantity value u.monitors).2) := by
  simp only [Results.test, h]

/-- The test touches the monitors and ALERT alone. -/
theorem Results.test_eq (c : Completion) (u : Results) :
    (u.test c).1 = { u with monitors := (u.test c).1.monitors, alert := (u.test c).1.alert } := by
  cases h : c.value with
  | none => rw [Results.test_of_no_value u h]
  | some value =>
    rw [Results.test_of_value u h]
    generalize evaluateMonitors c.job.origin c.job.port c.job.quantity value u.monitors = tested
    rfl

@[simp] theorem Results.test_queue (c : Completion) (u : Results) : (u.test c).1.queue = u.queue := by
  rw [Results.test_eq]

@[simp] theorem Results.test_reservations (c : Completion) (u : Results) :
    (u.test c).1.reservations = u.reservations := by
  rw [Results.test_eq]

@[simp] theorem Results.test_nextId (c : Completion) (u : Results) : (u.test c).1.nextId = u.nextId := by
  rw [Results.test_eq]

/-- The id is taken before the test, which does not depend on it. -/
theorem Results.test_takeId (c : Completion) (report : ReportMode) (u : Results) :
    (u.takeId report).test c = ((u.test c).1.takeId report, (u.test c).2) := by
  have monitors : (u.takeId report).monitors = u.monitors := by unfold Results.takeId; split <;> rfl
  cases h : c.value with
  | none => rw [Results.test_of_no_value _ h, Results.test_of_no_value _ h]
  | some value =>
    rw [Results.test_of_value _ h, Results.test_of_value _ h, monitors]
    generalize evaluateMonitors c.job.origin c.job.port c.job.quantity value u.monitors = tested
    unfold Results.takeId
    split <;> rfl

section
variable {c : Completion} {s : State}

theorem State.handleResult_of_reserved (reserved : c.job.reserved = true) (report : c.job.report = .reported) :
    s.handleResult c =
      ({ s with results :=
         { (s.results.test c).1 with
           nextId := s.results.nextId + 1, reservations := s.results.reservations - 1
           queue := s.results.queue ++ [c.record s.results.nextId s.timebase none (s.results.test c).2] } },
        (s.results.test c).2.map (Verdict.occurrence c.job.port)) := by
  simp only [State.handleResult, Results.test_takeId]
  simp only [disposeResult, reserved, if_true, Results.takeId, report, Bool.false_eq_true, if_false, List.append_nil,
    Results.test_queue, Results.test_reservations, Results.test_nextId]

theorem State.handleResult_of_silent (reserved : c.job.reserved = false) (report : c.job.report = .silent) :
    s.handleResult c =
      ({ s with results := (s.results.test c).1 },
        (s.results.test c).2.map (Verdict.occurrence c.job.port)) := by
  simp only [State.handleResult, Results.test_takeId]
  simp [disposeResult, reserved, Results.takeId, report]

/-- The placing of an unreserved REPORTED completion, whichever way it goes. -/
theorem State.handleResult_of_unreserved (reserved : c.job.reserved = false) (report : c.job.report = .reported)
    {placed : Results} {lost : Nat} {discarded : Bool}
    (place : placeUnreserved (fun l => c.record s.results.nextId s.timebase l (s.results.test c).2)
      { (s.results.test c).1 with nextId := s.results.nextId + 1 } s.survey.lost = (placed, lost, discarded)) :
    s.handleResult c =
      ({ s with results := placed, survey := { s.survey with lost := lost } },
        (s.results.test c).2.map (Verdict.occurrence c.job.port) ++ if discarded then [.discard] else []) := by
  simp only [State.handleResult, Results.test_takeId]
  simp only [disposeResult, reserved, Results.takeId, report, Bool.false_eq_true, if_false, if_true,
    Results.test_nextId, place]

end

section
variable {make : Option Nat → ResultRec} {u : Results} {lost : Nat}

theorem placeUnreserved_of_room (room : u.queue.length + u.reservations < 16) :
    placeUnreserved make u lost = ({ u with queue := u.queue ++ [make (some lost)] }, 0, false) :=
  if_pos (decide_eq_true room)

theorem placeUnreserved_of_full (full : 16 ≤ u.queue.length + u.reservations) :
    placeUnreserved make u lost =
      match dropOldestSurvey u.queue with
      | some queue => ({ u with queue := queue ++ [make (some (addUpTo 255 lost))] }, 0, true)
      | none => (u, addUpTo 255 lost, true) :=
  if_neg fun free => absurd (of_decide_eq_true free) (Nat.not_lt.mpr full)

theorem placeUnreserved_replaces {older newer : List ResultRec} {r : ResultRec}
    (full : 16 ≤ u.queue.length + u.reservations) (queue : u.queue = older ++ r :: newer)
    (kept : ∀ q ∈ older, q.discardable = false) (dropped : r.discardable = true) :
    placeUnreserved make u lost =
      ({ u with queue := older ++ newer ++ [make (some (addUpTo 255 lost))] }, 0, true) := by
  simp only [placeUnreserved_of_full full, queue, dropOldestSurvey_of_first older newer kept dropped]

theorem placeUnreserved_loses (full : 16 ≤ u.queue.length + u.reservations)
    (kept : ∀ q ∈ u.queue, q.discardable = false) : placeUnreserved make u lost = (u, addUpTo 255 lost, true) := by
  simp only [placeUnreserved_of_full full, dropOldestSurvey_eq_none kept]

end

/-- Settles O31. -/
theorem resultsAreDisposed : Obligations.ResultsAreDisposed := by
  intro c s tested id used trips record raised
  have queue : tested.1.queue = s.results.queue := Results.test_queue c s.results
  have reservations : tested.1.reservations = s.results.reservations := Results.test_reservations c s.results
  refine ⟨State.handleResult_of_reserved, State.handleResult_of_silent, fun reserved report room => ?room,
    fun reserved report full bound => ⟨fun older newer r split kept dropped => ?replaces, fun kept => ?loses⟩⟩
  case room =>
    have place := State.handleResult_of_unreserved reserved report (placeUnreserved_of_room (lost := s.survey.lost)
      (u := { tested.1 with nextId := id + 1 }) (by simpa only [queue, reservations] using room))
    rw [place]
    rw [queue, if_neg Bool.false_ne_true, List.append_nil]
    rfl
  case replaces =>
    have place := State.handleResult_of_unreserved reserved report (placeUnreserved_replaces (lost := s.survey.lost)
      (u := { tested.1 with nextId := id + 1 }) (by simpa only [queue, reservations] using full)
      (queue.trans split) kept dropped)
    rw [place, addUpTo_eq_min bound]
    rfl
  case loses =>
    have place := State.handleResult_of_unreserved reserved report (placeUnreserved_loses (lost := s.survey.lost)
      (make := fun l => c.record id s.timebase l tested.2)
      (u := { tested.1 with nextId := id + 1 }) (by simpa only [queue, reservations] using full)
      (by simpa only [queue] using kept))
    rw [place, addUpTo_eq_min bound]
    rfl

/-! ## The window monitors (R97 to R99) -/

theorem AppliesTo.admits_iff (a : AppliesTo) (o : Origin) :
    a.admits o = true ↔
      match o with
      | .probe _ => False
      | .spot _ => a = .spot ∨ a = .both
      | .survey _ _ => a = .survey ∨ a = .both := by
  cases o <;> cases a <;> simp [AppliesTo.admits]

theorem Monitor.tests_iff (m : Monitor) (o : Origin) (p : PortId) (q : Quantity) :
    m.tests o p q = true ↔ m.quantity = q ∧ m.guarded.getLsbD p.val = true ∧ m.appliesTo.admits o = true := by
  simp [Monitor.tests, and_assoc]

theorem Monitor.evaluate_of_tests {m : Monitor} {o : Origin} {p : PortId} {q : Quantity} {value : Nat}
    (h : m.tests o p q = true) :
    m.evaluate o p q value =
      ({ m with ports := m.ports.set p (testValue (m.isOutside value) m.releaseCount m.ports[p]).1 },
        (testValue (m.isOutside value) m.releaseCount m.ports[p]).2) := if_pos h

theorem Monitor.evaluate_of_not_tests {m : Monitor} {o : Origin} {p : PortId} {q : Quantity} {value : Nat}
    (h : ¬m.tests o p q = true) : m.evaluate o p q value = (m, none) := if_neg h

/-- One monitor's turn in step 2 of R86. -/
def monitorTurn (o : Origin) (p : PortId) (q : Quantity) (value : Nat) (acc : Vector Monitor 12 × List Verdict)
    (i : Fin 12) : Vector Monitor 12 × List Verdict :=
  (acc.1.set i (acc.1[i].evaluate o p q value).1,
    acc.2 ++ ((acc.1[i].evaluate o p q value).2.map fun outside =>
      ({ monitor := i, outside := outside } : Verdict)).toList)

theorem evaluateMonitors_eq (o : Origin) (p : PortId) (q : Quantity) (value : Nat) (monitors : Vector Monitor 12) :
    evaluateMonitors o p q value monitors = (indexes 12).foldl (monitorTurn o p q value) (monitors, []) := by
  unfold evaluateMonitors
  congr 1
  funext ⟨ms, vs⟩ i
  simp only [monitorTurn]
  rcases ms[i].evaluate o p q value with ⟨m, _ | outside⟩ <;> simp

/-- Each monitor has its turn once, and the verdicts come in the order of the turns. -/
theorem foldl_monitorTurn (o : Origin) (p : PortId) (q : Quantity) (value : Nat) (is : List (Fin 12))
    (nodup : is.Nodup) (ms : Vector Monitor 12) (vs : List Verdict) :
    (is.foldl (monitorTurn o p q value) (ms, vs)).1 =
        is.foldl (fun v (i : Fin 12) => v.set i (v[i].evaluate o p q value).1) ms ∧
      (is.foldl (monitorTurn o p q value) (ms, vs)).2 =
        vs ++ is.filterMap fun i =>
          (ms[i].evaluate o p q value).2.map fun outside => { monitor := i, outside := outside } := by
  induction is generalizing ms vs with
  | nil => simp
  | cons i is ih =>
    obtain ⟨notIn, rest⟩ := List.nodup_cons.mp nodup
    obtain ⟨monitors, verdicts⟩ := ih rest (ms.set i (ms[i].evaluate o p q value).1)
      (vs ++ ((ms[i].evaluate o p q value).2.map fun outside =>
        ({ monitor := i, outside := outside } : Verdict)).toList)
    have others : ∀ j ∈ is, (ms.set i (ms[i].evaluate o p q value).1)[j] = ms[j] := fun j hj => by
      have differ : (i : Nat) ≠ (j : Nat) := fun e => notIn (Fin.ext e ▸ hj)
      simp [differ]
    refine ⟨monitors, ?_⟩
    rw [List.foldl_cons, monitorTurn, verdicts, List.append_assoc]
    congr 1
    rw [List.filterMap_congr fun j hj => by rw [others j hj]]
    simp only [List.filterMap_cons]
    cases (ms[i].evaluate o p q value).2 <;> rfl

theorem get_evaluateMonitors (o : Origin) (p : PortId) (q : Quantity) (value : Nat) (monitors : Vector Monitor 12)
    (i : Fin 12) : (evaluateMonitors o p q value monitors).1[i] = (monitors[i].evaluate o p q value).1 := by
  rw [evaluateMonitors_eq, (foldl_monitorTurn o p q value (indexes 12) (nodup_indexes 12) monitors []).1]
  have turns := get_foldl_indexes (fun (_ : Fin 12) (m : Monitor) => (m.evaluate o p q value).1) monitors i
  rw [turns]

theorem evaluateMonitors_verdicts (o : Origin) (p : PortId) (q : Quantity) (value : Nat)
    (monitors : Vector Monitor 12) :
    (evaluateMonitors o p q value monitors).2 = (indexes 12).filterMap fun i =>
      (monitors[i].evaluate o p q value).2.map fun outside => { monitor := i, outside := outside } := by
  rw [evaluateMonitors_eq, (foldl_monitorTurn o p q value (indexes 12) (nodup_indexes 12) monitors []).2,
    List.nil_append]

/-- Settles O32. -/
theorem monitorsTestResults : Obligations.MonitorsTestResults := by
  refine ⟨fun c u value => Results.test_of_no_value u value, fun c u value hv => ?turns, ?one⟩
  case turns =>
    rw [Results.test_of_value u hv]
    dsimp only [Results.updateAlert]
    refine ⟨fun i => ?_, ?_⟩
    · rw [get_evaluateMonitors]
    · rw [evaluateMonitors_verdicts]
  case one =>
    intro m o p q value admitted tested outside port
    have tests : m.tests o p q = true ↔ tested :=
      (Monitor.tests_iff m o p q).trans (and_congr Iff.rfl (and_congr Iff.rfl (AppliesTo.admits_iff m.appliesTo o)))
    have judged : m.isOutside value = true ↔ outside := decide_eq_true_iff
    have inside {h : ¬outside} : m.isOutside value = false := by
      rwa [← Bool.not_eq_true, judged]
    refine ⟨fun h => Monitor.evaluate_of_not_tests (mt tests.mp h), fun h => ?_, fun h => ?_, fun h => ?_, fun h => ?_,
      fun h => ?_⟩ <;> rw [Monitor.evaluate_of_tests (tests.mpr h)]
    · intro was now
      have stands : testValue false m.releaseCount port = (port, none) := by simp [testValue, was]
      rw [inside (h := now), stands]
      simp [port]
    · intro was now
      have trips : testValue true m.releaseCount port = ({ outside := true, insideCount := 0 }, some true) := by
        simp [testValue, was]
      rw [judged.mpr now, trips]
    · intro was now
      have stays : testValue true m.releaseCount port = ({ outside := true, insideCount := 0 }, none) := by
        simp [testValue, was]
      rw [judged.mpr now, stays]
    · intro was now more
      have counts : testValue false m.releaseCount port =
          ({ outside := true, insideCount := port.insideCount + 1 }, none) := by
        simp [testValue, was, more]
      rw [inside (h := now), counts]
    · intro was now last
      have releases : testValue false m.releaseCount port = ({ outside := false, insideCount := 0 }, some false) := by
        simp [testValue, was, last]
      rw [inside (h := now), releases]

/-! ## MONITOR_SET (R101) -/

theorem exec_monitorSet (tag : Byte) (payload : List Byte) (s : State) :
    exec (.monitorSet tag payload) s = s.request 0x30 tag payload := rfl

theorem answerRequest_monitorSet (tag : Byte) (payload : List Byte) (s : State) :
    answerRequest 0x30 tag payload s = answerMonitorSet payload s := rfl

theorem eq_of_length_eq_eight {α : Type} {l : List α} (h : l.length = 8) :
    ∃ a b c d e f g h, l = [a, b, c, d, e, f, g, h] := by
  match l, h with
  | [a, b, c, d, e, f, g, h], _ => exact ⟨a, b, c, d, e, f, g, h, rfl⟩

theorem alertLevel_iff (monitors : Vector Monitor 12) :
    alertLevel monitors = true ↔
      ∃ (i : Fin 12) (p : PortId), monitors[i].alertEnable = true ∧ monitors[i].guarded.getLsbD p.val = true ∧
        monitors[i].ports[p].outside = true := by
  have guards (m : Monitor) : (m.alertEnable &&
      (indexes 8).any fun (p : PortId) => m.guarded.getLsbD p.val && m.ports[p].outside) = true ↔
      ∃ p : PortId, m.alertEnable = true ∧ m.guarded.getLsbD p.val = true ∧ m.ports[p].outside = true := by
    simp [List.any_eq_true, mem_indexes]
  simp only [alertLevel, List.any_eq_true, guards, Vector.mem_toList_iff, Vector.mem_iff_getElem]
  constructor
  · rintro ⟨_, ⟨i, hi, rfl⟩, p, h⟩
    exact ⟨⟨i, hi⟩, p, h⟩
  · rintro ⟨i, p, h⟩
    exact ⟨_, ⟨i.val, i.isLt, rfl⟩, p, h⟩

theorem quantityOf_quantityCode (q : Quantity) : quantityOf (quantityCode q) = q := by cases q <;> rfl

theorem quantityCode_lt (q : Quantity) : quantityCode q < 5 := by cases q <;> decide

theorem appliesOf_appliesCode (a : AppliesTo) : appliesOf (appliesCode a).toNat = a := by cases a <;> rfl

theorem appliesCode_lt (a : AppliesTo) : (appliesCode a).toNat < 3 := by cases a <;> decide

theorem toNat_ofNat_of_lt {n : Nat} (h : n < 256) : (BitVec.ofNat 8 n).toNat = n := by
  simp only [BitVec.toNat_ofNat]
  omega

/-- Settles O33. -/
theorem monitorSetReplaces : Obligations.MonitorSetReplaces := by
  intro tag m q a enable guarded release limits s hexec length ordered top atLeast atMost
  obtain ⟨l0, l1, l2, l3, h0, h1, h2, h3, rfl⟩ := eq_of_length_eq_eight length
  let payload := [BitVec.ofNat 8 m.val, BitVec.ofNat 8 (quantityCode q), guarded] ++
    [l0, l1, l2, l3, h0, h1, h2, h3] ++ [release, appliesCode a, flagByte enable]
  have index : u8 payload 0 = m.val := toNat_ofNat_of_lt (by omega)
  have quantity : u8 payload 1 = quantityCode q := toNat_ofNat_of_lt (by have := quantityCode_lt q; omega)
  have low : u32 payload 3 = u32 [l0, l1, l2, l3, h0, h1, h2, h3] 0 := rfl
  have high : u32 payload 7 = u32 [l0, l1, l2, l3, h0, h1, h2, h3] 4 := rfl
  have count : u8 payload 11 = release.toNat := rfl
  have applies : u8 payload 12 = (appliesCode a).toNat := rfl
  have alert : u8 payload 13 = (flagByte enable).toNat := rfl
  have flag : (flagByte enable).toNat = if enable then 1 else 0 := by cases enable <;> rfl
  have passes : firstFailure (monitorSetChecks payload) = none := by
    simp only [firstFailure_eq_none_iff, monitorSetChecks, rangeCheck, exactLength, lengthCheck, within, maxLimit,
      List.forall_mem_cons, index, quantity, low, high, count, applies, alert, flag]
    have lowTop := Nat.le_trans ordered top
    refine ⟨rfl, by simp, by simp [quantityCode_lt], by simpa using lowTop, by simpa using top,
      by simp [atLeast, atMost], by simp [appliesCode_lt], by cases enable <;> simp, by simpa using ordered, by simp⟩
  have described : describedMonitor payload =
      { quantity := q, guarded := guarded, low := u32 [l0, l1, l2, l3, h0, h1, h2, h3] 0
        high := u32 [l0, l1, l2, l3, h0, h1, h2, h3] 4, releaseCount := release.toNat
        appliesTo := a, alertEnable := enable
        ports := Vector.replicate 8 { outside := false, insideCount := 0 } } := by
    have enabled : (u8 payload 13 == 1) = enable := by rw [alert, flag]; cases enable <;> rfl
    simp only [describedMonitor, quantity, quantityOf_quantityCode, low, high, count, applies, appliesOf_appliesCode,
      enabled]
    rfl
  have chosen : monitorAt payload = m := by simp [monitorAt, index]
  refine ⟨s.results.monitors.set m (describedMonitor payload), ?_, alertLevel_iff _, fun i other => ?_, ?_⟩
  · have answer : answerMonitorSet payload s.frameArrives =
        ({ s.frameArrives with
           results := { s.results with
             monitors := s.results.monitors.set m (describedMonitor payload)
             alert := alertLevel (s.results.monitors.set m (describedMonitor payload)) } }, .ok []) := by
      simp only [answerMonitorSet, validated_of_passes _ _ passes, chosen, Results.updateAlert,
        State.frameArrives_results]
    exact exec_of_executes (exec_monitorSet ..) hexec ((answerRequest_monitorSet ..).trans answer)
  · have differ : (m : Nat) ≠ (i : Nat) := fun e => other (Fin.ext e.symm)
    simp [differ]
  · rw [← described]
    simp

end Sys2Proof.Machine
end
section
/-! Chapter 3, the ends of jobs: a job that ends without a value (R52, R53), and what the survey's choice does when an
entry ends at its start, waits, or ends the pass (R54, R74 to R79). -/
namespace Sys2Proof.Machine

/-! ## A job that ends without a value -/

theorem State.deliverUntested_of_not_probe {j : Job} (h : j.isProbe = false) (s : State) (status : JobStatus) :
    s.deliverUntested j status =
      (s.handleResult { job := j, status := status, value := none }).1.latchAll
        (s.handleResult { job := j, status := status, value := none }).2 := by
  unfold State.deliverUntested
  cases origin : j.origin with
  | probe p => simp [Job.isProbe, origin] at h
  | spot tag => rfl
  | survey i pass => rfl

/-- Such an end touches the result unit, the lost count and the summary alone. -/
theorem State.deliverUntested_frame {j : Job} (h : j.isProbe = false) (s : State) (status : JobStatus) :
    s.deliverUntested j status =
      { s with
        results := (s.deliverUntested j status).results
        survey := { s.survey with lost := (s.deliverUntested j status).survey.lost }
        summary := (s.deliverUntested j status).summary } := by
  rw [State.deliverUntested_of_not_probe h, State.latchAll_eq]
  rfl

/-- R52, R86 to R93, from the disposal of a completion that no monitor tests. -/
theorem State.deliverUntested_endsValueless {j : Job} (h : j.isProbe = false) (s : State) (status : JobStatus) :
    s.EndsValueless j status (s.deliverUntested j status) := by
  obtain ⟨reserved, silent, room, full⟩ :=
    resultsAreDisposed { job := j, status := status, value := none } s
  have untested : s.results.test { job := j, status := status, value := none } = (s.results, []) :=
    Results.test_of_no_value s.results rfl
  rw [State.deliverUntested_of_not_probe h]
  refine ⟨fun held report => ?_, fun free report => ?_, fun free report notFull => ?_, fun free report isFull bound =>
    ⟨fun older newer r queue kept dropped => ?_, fun kept => ?_⟩⟩
  · rw [reserved held report, untested]
    rfl
  · rw [silent free report, untested]
    rfl
  · rw [room free report (Nat.not_le.mp notFull), untested]
    rfl
  · rw [(full free report isFull bound).1 older newer r queue kept dropped, untested]
    rfl
  · rw [(full free report isFull bound).2 kept, untested]
    rfl

theorem State.setActive_none_of_free {s : State} (h : s.engine.active = none) : s.setActive none = s := by
  rw [State.setActive, ← h]

theorem State.endActive_of_active {s : State} {j : Job} (h : s.engine.active = some j) (status : JobStatus) :
    s.endActive status = (s.setActive none).deliverUntested j status := by
  simp only [State.endActive, h]

theorem State.endParked_of_parked {s : State} {j : Job} (h : s.engine.parked = some j) (status : JobStatus) :
    s.endParked status = (s.setParked none).deliverUntested j status := by
  simp only [State.endParked, h]

theorem State.setActive_setActive (s : State) (j k : Option Job) : (s.setActive j).setActive k = s.setActive k := rfl

/-- A job that ends while no other holds the converter ends as if it had held it. -/
theorem State.endActive_setActive_of_free {s : State} (h : s.engine.active = none) (j : Job) (status : JobStatus) :
    (s.setActive (some j)).endActive status = s.deliverUntested j status := by
  rw [State.endActive_of_active rfl, State.setActive_setActive, State.setActive_none_of_free h]

theorem State.deliverUntested_of_probe {j : Job} {p : PortId} (h : j.origin = .probe p) (s : State)
    (status : JobStatus) : s.deliverUntested j status = s.discardProbe p := by
  simp only [State.deliverUntested, h]

theorem State.endActiveOn_of_on {s : State} {j : Job} {p : PortId} (h : s.engine.active = some j) (on : j.port = p) :
    s.endActiveOn p = s.endActive .portOff := if_pos (by simp [h, on])

theorem State.endActiveOn_of_none {s : State} (h : s.engine.active = none) (p : PortId) : s.endActiveOn p = s :=
  if_neg (by simp [h])

theorem State.endActiveOn_of_off {s : State} {j : Job} {p : PortId} (h : s.engine.active = some j) (off : j.port ≠ p) :
    s.endActiveOn p = s := if_neg (by simp [h, off])

theorem State.endParkedOn_of_on {s : State} {j : Job} {p : PortId} (h : s.engine.parked = some j) (on : j.port = p) :
    s.endParkedOn p = s.endParked .portOff := if_pos (by simp [h, on])

theorem State.endParkedOn_of_none {s : State} (h : s.engine.parked = none) (p : PortId) : s.endParkedOn p = s :=
  if_neg (by simp [h])

theorem State.endParkedOn_of_off {s : State} {j : Job} {p : PortId} (h : s.engine.parked = some j) (off : j.port ≠ p) :
    s.endParkedOn p = s := if_neg (by simp [h, off])

/-! ## The loop of choices when a job ends at its start -/

/-- The loop ends a pass that is over before it chooses (R75; log 9). -/
theorem State.chooseLoop_of_pass (n : Nat) {s : State} (free : s.engine.active = none)
    (nothing : s.progressPass.nextChoice = none) : s.chooseLoop (n + 1) = s.progressPass := by
  simp only [State.chooseLoop, free, Option.isSome_none, Bool.false_eq_true, if_false, nothing]

theorem State.startJob_of_open {s : State} {j : Job} (h : s.closed j.port = false) :
    s.startJob j = s.deliverUntested j .portOff := if_neg (by simp [h])

/-- Settles O19. -/
theorem jobsEndWithoutValue : Obligations.JobsEndWithoutValue := by
  refine ⟨fun r s mark free parked noProbe stopped spots room isOpen => ?spot, fun j status s active => ?active,
    fun p s => ?opening⟩
  case spot =>
    have noEnd : s.NoPassEnd := State.noPassEnd_of_not_running stopped
    have probes : s.waitingProbe = none := State.waitingProbe_eq_none s noProbe
    have chosen := State.nextChoice_of_spot probes (State.startableSpot_of_head spots room)
    have ended : s.takeChoice (.spot r []) =
        { s with
          spots := []
          results := { s.results with
            nextId := s.results.nextId + 1
            queue := s.results.queue ++ [valuelessRecord s (spotJob r) .portOff] } } := by
      have portOff : ({ s with spots := [] }.reserve true).closed (spotJob r).port = false := isOpen
      have record := (State.deliverUntested_endsValueless (j := spotJob r) rfl ({ s with spots := [] }.reserve true)
        .portOff).1 rfl rfl
      exact (State.startJob_of_open portOff).trans record
    have after : (s.takeChoice (.spot r [])).chooseLoop 255 = s.takeChoice (.spot r []) := by
      refine State.chooseLoop_of_idle 255 _ ?_ ?_ <;> rw [ended]
      · exact State.noPassEnd_of_not_running stopped
      · exact State.nextChoice_eq_none probes (State.startableSpot_eq_none _ (.inl rfl)) parked
          (State.offer_eq_none_of_idle (.inl stopped))
    have look : s.wakeEngine = s.takeChoice (.spot r []) := by
      rw [State.wakeEngine_of_free s mark free, State.progressPass_of_noPassEnd s noEnd,
        State.chooseLoop_succ 255 s _ free noEnd chosen, after]
    rw [exec_jobStart, look, ended]
    rfl
  case active =>
    intro freed
    rw [State.endActive_of_active active]
    refine ⟨fun other => State.deliverUntested_endsValueless other freed status, fun p origin => ?_⟩
    rw [State.deliverUntested_of_probe origin]
    exact ⟨fun done => if_neg done, fun probing => if_pos probing⟩
  case opening =>
    refine ⟨rfl, fun j => State.endActiveOn_of_on, fun none => State.endActiveOn_of_none none p,
      fun j => State.endActiveOn_of_off, fun none => State.endParkedOn_of_none none p, fun j => State.endParkedOn_of_off,
      fun j parked on other => ?_⟩
    rw [State.endParkedOn_of_on parked on, State.endParked_of_parked parked]
    exact State.deliverUntested_endsValueless other _ _

end Sys2Proof.Machine
end
section
/-! Chapters 3 and 4, the survey at the engine's look (R54, R60, R73 to R79): entries that start, end at their start or
wait for a reservation, and the pass that ends before the choice. -/
namespace Sys2Proof.Machine

/-! ## The entry that a pass has reached (R73, R79) -/

theorem State.reachedEntry_eq_some_iff (s : State) (i : SlotId) (d : SurveyEntry) :
    s.reachedEntry = some (i, d) ↔
      s.survey.state = .running ∧ s.survey.inPass = true ∧ s.engine.hasSurvey = false ∧ s.survey.NextIs i d := by
  rw [State.reachedEntry]
  split
  next h => simp [h, Survey.nextEntry_eq_some_iff]
  next h =>
    refine iff_of_false (by simp) fun ⟨running, inPass, noJob, _⟩ => h ⟨running, inPass, noJob⟩

/-- The entry reached waits for a reservation (R79). -/
theorem State.waits_iff (s : State) (d : SurveyEntry) :
    (s.survey.needsFree d && !s.results.hasFree) = true ↔
      d.reported = true ∧ s.survey.pacing = .stall ∧ 16 ≤ s.results.queue.length + s.results.reservations := by
  have full : s.results.hasFree = false ↔ 16 ≤ s.results.queue.length + s.results.reservations := by
    rw [← Bool.not_eq_true, State.hasFree_iff, Nat.not_lt]
  simp [Survey.needsFree, full, and_assoc]

theorem State.stallSlot_eq_some_iff (s : State) (i : SlotId) :
    s.stallSlot = some i ↔
      ∃ d : SurveyEntry, s.reachedEntry = some (i, d) ∧ (s.survey.needsFree d && !s.results.hasFree) = true := by
  unfold State.stallSlot
  split
  next none => simp [none]
  next k d reached =>
    simp only [reached, Option.some.injEq, Prod.mk.injEq]
    split
    next waits => exact ⟨fun e => ⟨d, ⟨Option.some.inj e, rfl⟩, waits⟩, fun ⟨_, ⟨e, _⟩, _⟩ => e ▸ rfl⟩
    next moves =>
      refine iff_of_false (by simp) ?_
      rintro ⟨f, ⟨_, rfl⟩, waits⟩
      exact moves waits

theorem State.offer_eq_none_of_waiting {s : State} {i : SlotId} {d : SurveyEntry} (next : s.survey.NextIs i d)
    (waits : (s.survey.needsFree d && !s.results.hasFree) = true) : s.offer = none := by
  unfold State.offer
  split
  next => rfl
  next k f reached =>
    obtain ⟨_, _, _, found⟩ := (State.reachedEntry_eq_some_iff s k f).mp reached
    have same := ((Survey.nextEntry_eq_some_iff _ _ _).mpr found).symm.trans ((Survey.nextEntry_eq_some_iff _ _ _).mpr next)
    cases same
    exact if_pos waits

/-! ## The end of a pass (R75 to R77) -/

theorem State.progressPass_of_due {s : State} (h : s.passEndDue = true) :
    s.progressPass = { s with survey := s.survey.endPass s.timebase } := if_pos h

/-- The modes' conditions under which the end of a pass starts no further one at once. -/
def Survey.RestsAfterPass (v : Survey) : Prop :=
  v.mode = .single ∨ (v.mode = .continuous ∧ 0 < v.floorLeft) ∨ (v.mode = .timed ∧ v.tickPending = false)

theorem Survey.endPass_inPass_of_rests {v : Survey} (now : Word32) (h : v.RestsAfterPass) :
    (v.endPass now).inPass = false := by
  rcases h with mode | ⟨mode, floor⟩ | ⟨mode, tick⟩
  · simp [Survey.endPass, mode, Survey.stop]
  · simp [Survey.endPass, mode, Nat.pos_iff_ne_zero.mp floor]
  · simp [Survey.endPass, mode, tick]

/-- A pass in progress after the end of another is one that the RUNNING survey has started. -/
theorem Survey.endPass_state_of_inPass {v : Survey} {now : Word32} (h : (v.endPass now).inPass = true) :
    (v.endPass now).state = v.state := by
  cases mode : v.mode with
  | single => simp [Survey.endPass, mode, Survey.stop] at h
  | continuous => simp only [Survey.endPass, mode]; split <;> rfl
  | timed => simp only [Survey.endPass, mode]; split <;> rfl

theorem State.passEndDue_iff (s : State) :
    s.passEndDue = true ↔
      s.survey.state = .running ∧ s.survey.inPass = true ∧ s.survey.nextEntry = none ∧ s.engine.hasSurvey = false := by
  simp [State.passEndDue, and_assoc]

theorem State.progressPass_running {s : State} (due : s.passEndDue = true)
    (inPass : s.progressPass.survey.inPass = true) : s.progressPass.survey.state = .running := by
  rw [State.progressPass_of_due due] at inPass ⊢
  exact (Survey.endPass_state_of_inPass inPass).trans ((State.passEndDue_iff s).mp due).1

theorem State.progressPass_eq (s : State) : s.progressPass = { s with survey := s.progressPass.survey } := by
  unfold State.progressPass
  split <;> rfl

/-! ## The entry that is taken (R42, R74) -/

/-- The cursor passes the entry, and its job is given the reservation that it needs. -/
def State.entryTaken (u : State) (i : SlotId) (d : SurveyEntry) : State :=
  { u with
    survey := { u.survey with cursor := i.val + 1 }
    results := { u.results with
      reservations :=
        if d.reported && decide (u.survey.pacing = .stall) then u.results.reservations + 1
        else u.results.reservations } }

theorem State.takeChoice_survey_eq (s : State) (i : SlotId) (d : SurveyEntry) :
    s.takeChoice (.survey i d) = (s.entryTaken i d).startJob (surveyJob s.survey i d) := by
  have reserved : (surveyJob s.survey i d).reserved = (d.reported && decide (s.survey.pacing = .stall)) := rfl
  simp only [State.takeChoice, reserved, State.entryTaken, State.reserve]
  split <;> rfl

/-- The state after an entry whose switch is open, written as the end of a job (R44). -/
theorem State.takeChoice_survey_of_open {s : State} {i : SlotId} {d : SurveyEntry} (free : s.engine.active = none)
    (isOpen : s.closed d.port = false) :
    s.takeChoice (.survey i d) =
      ((s.entryTaken i d).setActive (some (surveyJob s.survey i d))).endActive .portOff := by
  rw [State.endActive_setActive_of_free (s := s.entryTaken i d) free, State.takeChoice_survey_eq]
  exact State.startJob_of_open isOpen

/-- What the end of an entry on an open switch leaves to the next choice. -/
theorem State.entryOff_frame {s : State} (free : s.engine.active = none) (i : SlotId) (d : SurveyEntry) :
    ∃ (results : Results) (lost : Nat) (summary : Summary),
      ((s.entryTaken i d).setActive (some (surveyJob s.survey i d))).endActive .portOff =
        { s with
          results := results
          survey := { s.survey with cursor := i.val + 1, lost := lost }
          summary := summary } := by
  rw [State.endActive_setActive_of_free (s := s.entryTaken i d) free, State.deliverUntested_frame rfl]
  exact ⟨_, _, _, rfl⟩

/-! ## A parked job whose gate wait is used up (R57, R60) -/

theorem State.takeChoice_resume_of_timeout {s : State} {j : Job} (quantity : j.quantity = .sigamp)
    (gate : (s.port j.port).tap.trafficGate = false) (used : j.gateTimeout * ticksPerMs ≤ j.gateWait) :
    s.takeChoice (.resume j) =
      ({ s with
         engine := Engine.working { j with phase := .settling, settleLeft := 0, sample := .idle }
           { s.engine with parked := none } }).endActive .gateTimeout := by
  have shut : ((s.setParked none).port j.port).gateOpen .sigamp = false := gate
  simp only [State.takeChoice, State.enterSettling, quantity, settleTicks, if_true, State.settled, Quantity.gated]
  rw [if_neg (by simpa [State.port, State.setParked] using shut), State.enterGated, if_pos used]
  simp only [Engine.working, State.setActive, State.setParked]

theorem Job.isProbe_of_isSurvey {j : Job} (h : j.isSurvey = true) : j.isProbe = false := by
  unfold Job.isSurvey at h
  unfold Job.isProbe
  cases origin : j.origin <;> simp [origin] at h ⊢

/-- Settles O18. -/
theorem surveyEntriesStartOrWait : Obligations.SurveyEntriesStartOrWait := by
  refine ⟨fun s i => ?stall, fun s j mark active other => State.wakeEngine_of_kept mark active (.inl other),
    fun s mark free noProbe noSpots => ?look⟩
  case stall =>
    simp only [State.stallSlot_eq_some_iff, State.reachedEntry_eq_some_iff, State.waits_iff,
      Engine.hasSurvey_eq_false_iff]
    constructor
    · rintro ⟨d, ⟨running, inPass, noJob, next⟩, reported, stall, full⟩
      exact ⟨running, inPass, noJob, stall, full, d, next, reported⟩
    · rintro ⟨running, inPass, noJob, stall, full, d, next, reported⟩
      exact ⟨d, ⟨running, inPass, noJob, next⟩, reported, stall, full⟩
  case look =>
    intro taken job started fits
    have probes : s.waitingProbe = none := State.waitingProbe_eq_none s noProbe
    have spots : s.startableSpot = none := State.startableSpot_eq_none s (.inl noSpots)
    have idle (parked : s.engine.parked = none) (noEnd : s.NoPassEnd) (noOffer : s.offer = none) : s.wakeEngine = s :=
      State.wakeEngine_of_idle s mark free noEnd (State.nextChoice_eq_none probes spots parked noOffer)
    have starts (u : State) (n : Nat) (hfree : u.engine.active = none) (hparked : u.engine.parked = none)
        (hprobes : u.waitingProbe = none) (hspots : u.spots = []) (running : u.survey.state = .running)
        (inPass : u.survey.inPass = true) (k : SlotId) (f : SurveyEntry) (next : u.survey.NextIs k f) (fit : fits u f)
        (closed : u.closed f.port = true) (timeout : 1 ≤ f.gateTimeout) :
        u.chooseLoop (n + 1) = started u k f := by
      have offered := State.offer_eq_some u k f running inPass hfree hparked next fit
      have chosen := State.nextChoice_of_offer hprobes (State.startableSpot_eq_none u (.inl hspots)) hparked offered
      have start := State.takeChoice_survey u k f closed timeout
      rw [State.chooseLoop_of_choice n u _ hfree (State.noPassEnd_of_next u k f next) chosen (by rw [start]; rfl)]
      exact start
    refine ⟨fun i d parked running inPass next fit isOpen => ?off, fun i d parked next reported stall full => ?waits,
      fun parked between => ?between, fun parked due => ?pass, fun j parked survey quantity gate used rests => ?resume⟩
    case off =>
      intro off
      have offered := State.offer_eq_some s i d running inPass free parked next fit
      have chosen := State.nextChoice_of_offer probes spots parked offered
      have noEnd := State.noPassEnd_of_next s i d next
      have goesOn : s.wakeEngine = off.chooseLoop 255 := by
        rw [State.wakeEngine_of_free s mark free, State.progressPass_of_noPassEnd s noEnd,
          State.chooseLoop_succ 255 s _ free noEnd chosen, State.takeChoice_survey_of_open free isOpen]
        rfl
      obtain ⟨results, lost, summary, frame⟩ := State.entryOff_frame free i d
      have frame' : off = _ := frame
      rw [goesOn]
      refine ⟨fun k f next' fit' closed timeout => ?_, fun last mode => ?_⟩
      · clear_value off
        subst frame'
        exact starts { s with
          results := results, survey := { s.survey with cursor := i.val + 1, lost := lost }, summary := summary }
          254 free parked probes noSpots running inPass k f next' fit' closed timeout
      · clear_value off
        have due : off.passEndDue = true := by
          subst frame'
          exact (State.passEndDue_iff _).mpr ⟨running, inPass, (Survey.nextEntry_eq_none_iff _).mpr
            fun k f after slot => last k f after slot, (Engine.hasSurvey_eq_false_iff _).mpr
              fun j h => by simp [free, parked] at h⟩
        have rests : off.survey.RestsAfterPass := by subst frame'; exact mode
        have ended : off.progressPass.survey.inPass = false := by
          rw [State.progressPass_of_due due]
          exact Survey.endPass_inPass_of_rests _ rests
        have same := State.progressPass_eq off
        refine State.chooseLoop_of_pass 254 (by subst frame'; exact free) ?_
        refine State.nextChoice_eq_none ?_ (State.startableSpot_eq_none _ (.inl ?_)) ?_
          (State.offer_eq_none_of_idle (.inr ended))
        all_goals rw [same]; subst frame'
        · exact probes
        · exact noSpots
        · exact parked
    case waits =>
      exact idle parked (State.noPassEnd_of_next s i d next)
        (State.offer_eq_none_of_waiting next ((State.waits_iff s d).mpr ⟨reported, stall, full⟩))
    case between =>
      exact idle parked (State.noPassEnd_of_between between) (State.offer_eq_none_of_idle (.inr between))
    case pass =>
      have isDue : s.passEndDue = true := by simpa [State.NoPassEnd] using due
      have same := State.progressPass_eq s
      have probes' : s.progressPass.waitingProbe = none := by rw [same]; exact probes
      have noSpots' : s.progressPass.spots = [] := by rw [same]; exact noSpots
      have parked' : s.progressPass.engine.parked = none := by rw [State.progressPass_engine]; exact parked
      have free' : s.progressPass.engine.active = none := by rw [State.progressPass_engine]; exact free
      rw [State.wakeEngine_of_free s mark free]
      refine ⟨fun between => ?_, fun i d inPass next fit closed timeout => ?_⟩
      · exact State.chooseLoop_of_idle 256 _ (State.noPassEnd_of_between between)
          (State.nextChoice_eq_none probes' (State.startableSpot_eq_none _ (.inl noSpots')) parked'
            (State.offer_eq_none_of_idle (.inr between)))
      · exact starts _ 255 free' parked' probes' noSpots' (State.progressPass_running isDue inPass) inPass i d next fit
          (by rw [same]; exact closed) timeout
    case resume =>
      have chosen := State.nextChoice_of_parked probes spots parked
      have noEnd := State.noPassEnd_of_idle rests
      have ended := State.takeChoice_resume_of_timeout quantity gate used
      have frame : ∃ (results : Results) (lost : Nat) (summary : Summary), s.takeChoice (.resume j) =
          { s with
            engine := { s.engine with mux := some (j.port, j.quantity), active := none, parked := none }
            results := results, survey := { s.survey with lost := lost }, summary := summary } := by
        rw [ended, State.endActive_of_active rfl,
          State.deliverUntested_frame (by exact Job.isProbe_of_isSurvey (j := j) survey)]
        exact ⟨_, _, _, rfl⟩
      obtain ⟨results, lost, summary, frame⟩ := frame
      rw [State.wakeEngine_of_free s mark free, State.progressPass_of_noPassEnd s noEnd,
        State.chooseLoop_succ 255 s _ free noEnd chosen, ← ended]
      refine State.chooseLoop_of_idle 255 _ ?_ ?_ <;> rw [frame]
      · exact State.noPassEnd_of_idle rests
      · exact State.nextChoice_eq_none probes (State.startableSpot_eq_none _ (.inl noSpots)) rfl
          (State.offer_eq_none_of_idle rests)

end Sys2Proof.Machine
end
section
/-! Chapter 3, the phases of the active job: settling, timed samples, gates and gated samples (R45 to R50). -/
namespace Sys2Proof.Machine

/-! ## Gates (R14, R32, R41) -/

theorem Quantity.gated_iff (q : Quantity) : q.gated = true ↔ q = .sigamp ∨ q = .noise := by
  cases q <;> simp [Quantity.gated]

/-- The gate that a gated quantity waits on. -/
theorem Port.gateOpen_of_gated {q : Quantity} (h : q = .sigamp ∨ q = .noise) (r : Port) :
    r.gateOpen q = if q = .sigamp then r.tap.trafficGate else r.cond.quietGate := by
  rcases h with rfl | rfl <;> rfl

/-- No gate moves with time alone. -/
theorem Port.elapse_gateOpen (d : Nat) (r : Port) (q : Quantity) : (r.elapse d).gateOpen q = r.gateOpen q := by
  have traffic : (r.elapse d).tap.trafficGate = r.tap.trafficGate := by
    simp only [Port.elapse, Tap.elapse]
    split <;> rfl
  cases q
  case sigamp => exact traffic
  all_goals rfl

/-! ## A job that settles, or finds its gate closed -/

theorem State.enterGated_of_waiting {j : Job} (h : j.gateWait < j.gateTimeout * ticksPerMs) (s : State) :
    s.enterGated j = s.setActive (some { j with phase := .gated, sample := .idle }) :=
  if_neg (Nat.not_le.mpr h)

theorem State.enterGated_of_timeout {j : Job} (h : j.gateTimeout * ticksPerMs ≤ j.gateWait) (s : State) :
    s.enterGated j = (s.setActive (some j)).endActive .gateTimeout := if_pos h

theorem State.settled_of_ungated {j : Job} (h : j.quantity.gated = false) (s : State) :
    s.settled j = s.setActive (some { j with phase := .sampling, sample := .timed 40 }) := if_neg (by simp [h])

theorem State.settled_of_open {s : State} {j : Job} (h : j.quantity.gated = true)
    (gate : (s.port j.port).gateOpen j.quantity = true) :
    s.settled j = s.setActive (some { j with phase := .sampling, sample := .idle }) := by
  simp only [State.settled, h, gate, if_true]

theorem State.settled_of_closed {s : State} {j : Job} (h : j.quantity.gated = true)
    (gate : (s.port j.port).gateOpen j.quantity = false) : s.settled j = s.enterGated j := by
  simp only [State.settled, h, gate, if_true, Bool.false_eq_true, if_false]

/-! ## ENGINE_SETTLE_END and GATE_TIMEOUT (R45, R50) -/

theorem exec_engineSettleEnd_of_none {s : State} (h : s.engine.active = none) :
    exec .engineSettleEnd s = .next s := by
  change execEngineSettleEnd s = _
  simp only [execEngineSettleEnd, h]

theorem exec_engineSettleEnd_of_settling {s : State} {j : Job} (h : s.engine.active = some j)
    (phase : j.phase = .settling) :
    exec .engineSettleEnd s =
      .next (((s.elapse j.settleLeft).settled { j with settleLeft := 0 }).wakeEngine).arbitrate := by
  change execEngineSettleEnd s = _
  simp only [execEngineSettleEnd, h, phase, State.answered]

theorem exec_engineSettleEnd_of_not_settling {s : State} {j : Job} (h : s.engine.active = some j)
    (phase : j.phase ≠ .settling) : exec .engineSettleEnd s = .next s := by
  change execEngineSettleEnd s = _
  cases k : j.phase with
  | settling => exact absurd k phase
  | sampling => simp only [execEngineSettleEnd, h, k]
  | gated => simp only [execEngineSettleEnd, h, k]

theorem exec_gateTimeout_of_none {s : State} (h : s.engine.active = none) : exec .gateTimeout s = .next s := by
  change execGateTimeout s = _
  simp only [execGateTimeout, h]

theorem exec_gateTimeout_of_gated {s : State} {j : Job} (h : s.engine.active = some j) (phase : j.phase = .gated) :
    exec .gateTimeout s =
      .next
        (((s.elapse (j.gateTimeout * ticksPerMs - j.gateWait)).endActive .gateTimeout).wakeEngine).arbitrate := by
  change execGateTimeout s = _
  simp only [execGateTimeout, h, phase, State.answered]

theorem exec_gateTimeout_of_not_gated {s : State} {j : Job} (h : s.engine.active = some j) (phase : j.phase ≠ .gated) :
    exec .gateTimeout s = .next s := by
  change execGateTimeout s = _
  cases k : j.phase with
  | gated => exact absurd k phase
  | sampling => simp only [execGateTimeout, h, k]
  | settling => simp only [execGateTimeout, h, k]

/-- Settles O21. -/
theorem settleEndsAndGateTimeouts : Obligations.SettleEndsAndGateTimeouts := by
  refine ⟨fun s => ⟨exec_engineSettleEnd_of_none, fun j active => ⟨exec_engineSettleEnd_of_not_settling active, ?settles⟩⟩,
    fun s => ⟨exec_gateTimeout_of_none, fun j active =>
      ⟨exec_gateTimeout_of_not_gated active, exec_gateTimeout_of_gated active⟩⟩⟩
  intro phase e k gated gateOpen
  have gates (h : gated) : (e.port k.port).gateOpen k.quantity = gateOpen := by
    rw [show e.port k.port = (s.port j.port).elapse j.settleLeft from State.port_elapse ..,
      Port.elapse_gateOpen, Port.gateOpen_of_gated h]
  have settles := exec_engineSettleEnd_of_settling active phase
  refine ⟨fun free => ?ungated, fun h isOpen => ?isOpen, fun h shut waits => ?waits, fun h shut used => ?used⟩ <;> rw [settles]
  case ungated =>
    have ungated : k.quantity.gated = false := Bool.not_eq_true _ ▸ mt (Quantity.gated_iff _).mp free
    rw [State.settled_of_ungated ungated]
  case isOpen => rw [State.settled_of_open ((Quantity.gated_iff k.quantity).mpr h) ((gates h).trans isOpen)]
  case waits =>
    rw [State.settled_of_closed ((Quantity.gated_iff k.quantity).mpr h) ((gates h).trans shut),
      State.enterGated_of_waiting (j := k) waits]
  case used =>
    rw [State.settled_of_closed ((Quantity.gated_iff k.quantity).mpr h) ((gates h).trans shut),
      State.enterGated_of_timeout (j := k) used]

/-! ## Samples (R46 to R49) -/

theorem State.afterSample_of_last {j : Job} (h : j.samplesDone = 2 ^ j.e) (s : State) (onward : Job) :
    s.afterSample j onward = s.completeOk j := if_pos h

theorem State.afterSample_of_more {j : Job} (h : j.samplesDone ≠ 2 ^ j.e) (s : State) (onward : Job) :
    s.afterSample j onward = s.setActive (some onward) := if_neg h

theorem exec_sampleEnd_of_none {code : Code} {s : State} (h : s.engine.active = none) :
    exec (.sampleEnd code) s = .next s := by
  change execSampleEnd code s = _
  simp only [execSampleEnd, h]

theorem exec_sampleEnd_of_timed {code : Code} {s : State} {j : Job} {left : Nat} (h : s.engine.active = some j)
    (phase : j.phase = .sampling) (sample : j.sample = .timed left) :
    exec (.sampleEnd code) s = .next ((s.elapse left).timedSampleEnds j code).arbitrate := by
  change execSampleEnd code s = _
  simp only [execSampleEnd, h, phase, sample, State.answered]

theorem exec_sampleEnd_of_untimed {code : Code} {s : State} {j : Job} (h : s.engine.active = some j)
    (untimed : j.phase ≠ .sampling ∨ ∀ left, j.sample ≠ .timed left) : exec (.sampleEnd code) s = .next s := by
  change execSampleEnd code s = _
  cases phase : j.phase with
  | settling => simp only [execSampleEnd, h, phase]
  | gated => simp only [execSampleEnd, h, phase]
  | sampling =>
    cases sample : j.sample with
    | idle => simp only [execSampleEnd, h, phase, sample]
    | symbol held => simp only [execSampleEnd, h, phase, sample]
    | timed left => exact absurd sample (untimed.resolve_left (not_not.mpr phase) left)

theorem State.deliverOk_of_probe {j : Job} {p : PortId} (h : j.origin = .probe p) (s : State) :
    s.deliverOk j = s.judgeProbe p (jobValue j.shift j.sum) := by
  simp only [State.deliverOk, h]

theorem State.deliverOk_of_not_probe {j : Job} (h : j.isProbe = false) (s : State) :
    s.deliverOk j =
      (s.handleResult { job := j, status := .ok, value := some (jobValue j.shift j.sum) }).1.raiseAll
        (s.handleResult { job := j, status := .ok, value := some (jobValue j.shift j.sum) }).2 := by
  cases origin : j.origin with
  | probe p => simp [Job.isProbe, origin] at h
  | spot tag => simp only [State.deliverOk, origin]
  | survey i pass => simp only [State.deliverOk, origin]

/-- Settles O22. -/
theorem sampleEndAccumulates : Obligations.SampleEndAccumulates := by
  intro code s
  refine ⟨exec_sampleEnd_of_none, fun j active => ⟨exec_sampleEnd_of_untimed active, ?timed⟩⟩
  intro left phase sample e k value freed
  rw [exec_sampleEnd_of_timed active phase sample]
  refine ⟨fun more => ?more, fun last => ⟨fun p probe => ?probe, fun other => ?other⟩⟩
  case more =>
    have goesOn : e.timedSampleEnds j code = e.setActive (some { k with sample := .timed 40 }) :=
      State.afterSample_of_more more e _
    rw [goesOn]
  case probe =>
    have ends : e.timedSampleEnds j code = e.completeOk k := State.afterSample_of_last last e _
    rw [ends, State.completeOk, State.deliverOk_of_probe (j := k) probe]
  case other =>
    have ends : e.timedSampleEnds j code = e.completeOk k := State.afterSample_of_last last e _
    intro done
    rw [ends, State.completeOk, State.deliverOk_of_not_probe (j := k) other]

theorem acceptsSample_iff (q : Quantity) (held : Bool) (c : SymClass) :
    acceptsSample q held c = true ↔ q = .sigamp ∨ (q = .noise ∧ held = true ∧ c = .quiet) := by
  cases q <;> simp [acceptsSample]

section
variable {s : State} {j : Job} {p : PortId}

theorem State.judgeSample_of_idle (active : s.engine.active = some j) (sample : j.sample = .idle) (c : SymClass)
    (code : Code) : s.judgeSample p c code = s := by
  simp only [State.judgeSample, active, sample, ite_self]

theorem State.judgeSample_of_symbol {held : Bool} (active : s.engine.active = some j) (port : j.port = p)
    (sample : j.sample = .symbol held) (c : SymClass) (code : Code) :
    s.judgeSample p c code =
      if acceptsSample j.quantity held c then
        s.afterSample (j.addSample code) { j.addSample code with sample := .idle }
      else s.setActive (some { j with sample := .idle }) := by
  simp only [State.judgeSample, active, if_pos port, sample]

theorem State.discardSample_of_idle (active : s.engine.active = some j) (sample : j.sample = .idle) :
    s.discardSample p = s := by
  simp [State.discardSample, active, sample]

theorem State.discardSample_of_symbol {held : Bool} (active : s.engine.active = some j) (port : j.port = p)
    (sample : j.sample = .symbol held) : s.discardSample p = s.setActive (some { j with sample := .idle }) := by
  cases held <;> simp [State.discardSample, active, port, sample]

theorem State.symbolStart_of_settling (active : s.engine.active = some j) (phase : j.phase = .settling) :
    s.symbolStart p = s := by
  simp [State.symbolStart, active, phase]

/-- A start of a symbol time that finds a gated job without a sample in flight (R47). -/
theorem State.symbolStart_of_due (active : s.engine.active = some j) (port : j.port = p)
    (gated : j.quantity.gated = true) (phase : j.phase ≠ .settling) (sample : j.sample = .idle) :
    s.symbolStart p =
      if (s.port p).gateOpen j.quantity then s.setActive (some { j with phase := .sampling, sample := .symbol true })
      else if j.phase = .gated then s
      else s.enterGated j := by
  simp only [State.symbolStart, active]
  exact if_pos ⟨port, gated, phase, sample⟩

theorem State.quietGateClosed_of_spoilt (active : s.engine.active = some j) (port : j.port = p)
    (quantity : j.quantity = .noise) (sample : j.sample = .symbol true) (gate : (s.port p).cond.quietGate = false) :
    s.quietGateClosed p = s.setActive (some { j with sample := .symbol false }) := by
  simp only [State.quietGateClosed, active]
  exact if_pos ⟨port, quantity, sample, gate⟩

theorem State.quietGateClosed_of_open (gate : (s.port p).cond.quietGate = true) : s.quietGateClosed p = s := by
  unfold State.quietGateClosed
  split
  next => rfl
  next => exact if_neg fun ⟨_, _, _, closed⟩ => by simp [gate] at closed

theorem State.setActive_same (active : s.engine.active = some j) : s.setActive (some j) = s := by
  rw [State.setActive, ← active]

end

/-- Settles O23. -/
theorem gatedSamplesFollowSymbols : Obligations.GatedSamplesFollowSymbols := by
  intro p c code j s active port added gateOpen
  refine ⟨rfl, rfl, fun held sample => ?flight, fun sample => ⟨State.judgeSample_of_idle active sample c code,
    State.discardSample_of_idle active sample⟩, fun gated sample phase => ?start,
    State.symbolStart_of_settling active, State.quietGateClosed_of_spoilt active port, State.quietGateClosed_of_open⟩
  case flight =>
    intro accepted
    have judged := State.judgeSample_of_symbol active port sample c code
    have accepts : acceptsSample j.quantity held c = true ↔ accepted := acceptsSample_iff ..
    refine ⟨fun no => ?_, fun yes more => ?_, fun yes last => ?_, State.discardSample_of_symbol active port sample⟩
    · rw [judged, if_neg (mt accepts.mp no)]
    · rw [judged, if_pos (accepts.mpr yes)]
      exact State.afterSample_of_more more s _
    · rw [judged, if_pos (accepts.mpr yes)]
      exact State.afterSample_of_last last s _
  case start =>
    have gate : (s.port p).gateOpen j.quantity = gateOpen := Port.gateOpen_of_gated gated _
    have due := State.symbolStart_of_due active port ((Quantity.gated_iff _).mpr gated) phase sample
    have shuts (shut : gateOpen = false) : ¬(s.port p).gateOpen j.quantity = true := by simp [gate, shut]
    have sampling {h : j.phase = .sampling} : ¬j.phase = .gated := by simp [h]
    refine ⟨fun isOpen => ?_, fun shut waits => ?_, fun shut h waits => ?_, fun shut h used => ?_⟩
    · rw [due, if_pos (gate.trans isOpen)]
    · rw [due, if_neg (shuts shut), if_pos waits]
    · rw [due, if_neg (shuts shut), if_neg (sampling (h := h)), State.enterGated_of_waiting waits]
    · rw [due, if_neg (shuts shut), if_neg (sampling (h := h)), State.enterGated_of_timeout used,
        State.setActive_same active]

end Sys2Proof.Machine
end
section
/-! Chapter 4: the ends and starts of passes (R75 to R77), and the requests on the survey and the spot queue (R66 to R71,
R81, R84). -/
namespace Sys2Proof.Machine

/-! ## Passes (R75 to R78) -/

/-- Settles O24. -/
theorem passEndsByMode : Obligations.PassEndsByMode := by
  intro s due next
  have isDue : s.passEndDue = true ↔ due := by
    rw [State.passEndDue_iff, Survey.nextEntry_eq_none_iff, Engine.hasSurvey_eq_false_iff]
  have ends (h : due) : s.progressPass = { s with survey := s.survey.endPass s.timebase } :=
    State.progressPass_of_due (isDue.mpr h)
  have noEnd : s.NoPassEnd ↔ ¬due := by rw [← isDue, Bool.not_eq_true]
  refine ⟨noEnd, fun h => State.progressPass_of_noPassEnd s (noEnd.mpr h), fun h mode => ?_, fun h mode floor => ?_,
    fun h mode floor => ?_, fun h mode tick => ?_, fun h mode tick => ?_⟩ <;> rw [ends h]
  · simp only [Survey.endPass, mode, Survey.stop]
  · simp only [Survey.endPass, mode, if_neg (Nat.pos_iff_ne_zero.mp floor)]
  · simp only [Survey.endPass, mode, if_pos floor, Survey.startPass, ticksPerMs, next]
  · simp only [Survey.endPass, mode, tick, Bool.false_eq_true, if_false]
  · simp only [Survey.endPass, mode, tick, if_true, Survey.startPass, ticksPerMs, next]

theorem Survey.awaitsFloor_iff (v : Survey) :
    v.awaitsFloor = true ↔ v.mode = .continuous ∧ v.state ≠ .stopped ∧ v.inPass = false := by
  simp [Survey.awaitsFloor, and_assoc]

theorem exec_passFloorExpiry_of_waiting {s : State} (h : s.survey.awaitsFloor = true) :
    exec .passFloorExpiry s =
      match s.survey.state with
      | .running =>
        ({ s.elapse s.survey.floorLeft with
           survey := (s.elapse s.survey.floorLeft).survey.startPass (s.elapse s.survey.floorLeft).timebase
         }.wakeEngine).answered
      | .held => .next (s.elapse s.survey.floorLeft)
      | .stopped => .next (s.elapse s.survey.floorLeft) := if_pos h

theorem exec_paceTick_of_running {s : State} {left : Nat} (h : s.survey.pace = some left) :
    exec .paceTick s =
      .next (({ s.elapse left with
                survey := (s.elapse left).survey.tick (s.elapse left).timebase }).wakeEngine).arbitrate := by
  change execPaceTick s = _
  simp only [execPaceTick, h, State.answered]

/-- A tick starts the pass of a RUNNING survey that has none in progress (R77). -/
theorem Survey.tick_of_between {v : Survey} {now : Word32} (running : v.state = .running) (between : v.inPass = false) :
    v.tick now = ({ v with pace := some (v.interval * ticksPerMs) } : Survey).startPass now := by
  simp only [Survey.tick, running, between]

/-- A tick that finds a pass in progress, or the survey HELD, becomes pending (R77). -/
theorem Survey.tick_of_pending {v : Survey} {now : Word32}
    (h : (v.state = .running ∧ v.inPass = true) ∨ v.state = .held) :
    v.tick now = { v with pace := some (v.interval * ticksPerMs), tickPending := true } := by
  rcases h with ⟨running, inPass⟩ | held
  · simp only [Survey.tick, running, inPass]
  · simp only [Survey.tick, held]

/-- Settles O25. -/
theorem floorAndTickStartPasses : Obligations.FloorAndTickStartPasses := by
  intro s v floorOver
  refine ⟨fun mode running between => ?_, fun mode held between => ?_, fun idle => ?_, fun none => ?_,
    fun left pace => ?_⟩
  · have running' : s.survey.state = .running := running
    rw [exec_passFloorExpiry_of_waiting ((Survey.awaitsFloor_iff _).mpr ⟨mode, by simp [running'], between⟩)]
    simp only [running', State.answered]
    rfl
  · have held' : s.survey.state = .held := held
    rw [exec_passFloorExpiry_of_waiting ((Survey.awaitsFloor_iff _).mpr ⟨mode, by simp [held'], between⟩)]
    simp only [held']
    rfl
  · refine if_neg fun waits => ?_
    obtain ⟨mode, going, between⟩ := (Survey.awaitsFloor_iff _).mp waits
    rcases idle with h | h | h
    · exact h mode
    · exact going h
    · exact absurd (between.symm.trans h) (by decide)
  · change execPaceTick s = _
    have none' : s.survey.pace = Option.none := none
    simp only [execPaceTick, none']
  · intro e
    rw [exec_paceTick_of_running pace]
    refine ⟨fun running between => ?_, fun waits => ?_⟩
    · rw [Survey.tick_of_between (v := e.survey) running between]
      rfl
    · rw [Survey.tick_of_pending (v := e.survey) waits]
      rfl

/-! ## A request that is carried out -/

/-- A request whose checks all pass is carried out whole, and answered (R161, R181). -/
theorem exec_of_passes {c : Instr} {s t : State} {kind tag : Byte} {payload bytes : List Byte} {checks : List Check}
    (isRequest : exec c s = s.request kind tag payload) (executes : s.Executes kind tag)
    (answer : answerRequest kind tag payload s.frameArrives = validated checks s.frameArrives (t, bytes))
    (passes : firstFailure checks = none) : exec c s = .next (t.reply kind tag (.ok bytes)).arbitrate :=
  exec_of_executes isRequest executes (answer.trans (validated_of_passes _ _ passes))

theorem le_one (n : Nat) : le 1 n = [BitVec.ofNat 8 n] := rfl

/-! ## SURVEY_PUT (R66) -/

/-- What the writing of `count` descriptions from slot `first` on leaves in each slot. -/
theorem get_foldl_set_range {α : Type} {n first count : Nat} [NeZero n] (g : Nat → α) (v : Vector α n)
    (fits : first + count ≤ n) (i : Fin n) :
    ((List.range count).foldl (fun v k => v.set (Fin.ofNat n (first + k)) (g k)) v)[i] =
      if first ≤ i.val ∧ i.val < first + count then g (i.val - first) else v[i] := by
  induction count with
  | zero =>
    rw [if_neg (by omega)]
    rfl
  | succ count ih =>
    have index : (Fin.ofNat n (first + count)).val = first + count := Nat.mod_eq_of_lt (by omega)
    rw [List.range_succ, List.foldl_append, List.foldl_cons, List.foldl_nil]
    by_cases here : i.val = first + count
    · have same : Fin.ofNat n (first + count) = i := Fin.ext (index.trans here.symm)
      rw [if_pos (by omega)]
      simp only [same]
      simp [here]
    · have differ : (Fin.ofNat n (first + count)).val ≠ i.val := fun e => here (e.symm.trans index)
      have earlier := ih (by omega)
      simp only [Fin.getElem_fin] at earlier ⊢
      rw [Vector.getElem_set_ne _ _ differ, earlier]
      refine if_congr ?_ rfl rfl
      omega

theorem describedSlot_of_empty {payload : List Byte} {k : Nat} (h : u8 payload (2 + 9 * k) ≠ 1) :
    describedSlot payload k = none := if_neg h

theorem describedSlot_of_entry {payload : List Byte} {k : Nat} (h : u8 payload (2 + 9 * k) = 1) :
    describedSlot payload k =
      some
        { port := portAt payload (2 + 9 * k + 1), quantity := quantityOf (u8 payload (2 + 9 * k + 2))
          e := u8 payload (2 + 9 * k + 3), shift := u8 payload (2 + 9 * k + 4)
          gateTimeout := u16 payload (2 + 9 * k + 5), reported := u8 payload (2 + 9 * k + 7) == 0
          enabled := u8 payload (2 + 9 * k + 8) == 1 } := if_pos h

theorem quantityCode_quantityOf {code : Nat} (h : code < 5) : quantityCode (quantityOf code) = code := by
  match code, h with
  | 0, _ | 1, _ | 2, _ | 3, _ | 4, _ => rfl

/-- The checks of one description that is EMPTY, or whose fields are all in range. -/
theorem descriptionChecks_pass {payload : List Byte} {k : Nat}
    (h : u8 payload (2 + 9 * k) = 0 ∨
      (u8 payload (2 + 9 * k) = 1 ∧ u8 payload (2 + 9 * k + 1) < 8 ∧ u8 payload (2 + 9 * k + 2) < 5 ∧
        u8 payload (2 + 9 * k + 3) ≤ 8 ∧ u8 payload (2 + 9 * k + 4) ≤ 8 ∧ 1 ≤ u16 payload (2 + 9 * k + 5) ∧
        u8 payload (2 + 9 * k + 7) < 2 ∧ u8 payload (2 + 9 * k + 8) < 2)) :
    ∀ c ∈ descriptionChecks payload k, c.passes = true := by
  rcases h with empty | ⟨entry, port, quantity, e, shift, gate, report, enable⟩
  · simp [descriptionChecks, descriptionStart, empty, rangeCheck]
  · simp [descriptionChecks, descriptionStart, entry, rangeCheck, port, quantity, e, shift, gate, report, enable]

/-- Settles O26. -/
theorem surveyPutWritesSlots : Obligations.SurveyPutWritesSlots := by
  intro tag payload s executes first count field gate least most start fits length fields stopped
  have passes : firstFailure (surveyPutChecks payload s.frameArrives) = none := by
    have counted : within 1 16 (u8 payload 1) = true := by
      rw [within, decide_eq_true (show 1 ≤ u8 payload 1 from least), decide_eq_true (show u8 payload 1 ≤ 16 from most)]
      rfl
    have lengthOk : (surveyPutLength payload).passes = true := by
      have exact : payload.length = 2 + 9 * u8 payload 1 := length
      simp [surveyPutLength, lengthCheck, exact]
    have rangeOk : ∀ c ∈ slotRangeChecks payload, c.passes = true := by
      have firstOk : u8 payload 0 < 48 := start
      have lastOk : u8 payload 0 + u8 payload 1 ≤ 48 := fits
      simp [slotRangeChecks, rangeCheck, counted, firstOk, lastOk]
    rw [firstFailure_eq_none_iff]
    simp only [surveyPutChecks, List.cons_append, List.append_assoc, List.forall_mem_cons, List.forall_mem_append,
      List.mem_flatMap, List.mem_range]
    refine ⟨lengthOk, rangeOk, ?_, decide_eq_true stopped, by simp⟩
    rintro c ⟨k, hk, hc⟩
    exact descriptionChecks_pass (fields k hk) c hc
  have written (i : SlotId) : (writtenSlots payload s.survey.slots)[i] =
      if first ≤ i.val ∧ i.val < first + count then describedSlot payload (i.val - first) else s.survey.slots[i] :=
    get_foldl_set_range (describedSlot payload) s.survey.slots fits i
  refine ⟨writtenSlots payload s.survey.slots,
    exec_of_passes (c := .surveyPut tag payload) rfl executes rfl passes, fun i outside => ?_, fun k hk i hi => ?_⟩
  · rw [written, if_neg (by omega)]
  · have here : (writtenSlots payload s.survey.slots)[i] = describedSlot payload k := by
      rw [written, if_pos (by omega), show i.val - first = k by omega]
    rw [here]
    refine ⟨fun empty => ?_, fun entry => ?_⟩
    · have notEntry : u8 payload (2 + 9 * k) ≠ 1 := fun e => absurd (empty.symm.trans e) (by decide)
      exact describedSlot_of_empty notEntry
    · rcases fields k hk with empty | ⟨_, port, quantity, _, _, _, _, _⟩
      · exact absurd (empty.symm.trans entry) (by decide)
      · exact ⟨_, describedSlot_of_entry entry, Nat.mod_eq_of_lt port, quantityCode_quantityOf quantity, rfl, rfl, rfl,
          rfl, rfl⟩

/-! ## SURVEY_RUN, SURVEY_HOLD, SURVEY_RESUME, SURVEY_STOP (R68 to R71) -/

theorem Survey.hasEnabled_of_entry {v : Survey} {i : SlotId} {d : SurveyEntry} (entry : v.slots[i] = some d)
    (enabled : d.enabled = true) : v.hasEnabled = true := by
  refine List.any_eq_true.mpr ⟨some d, ?_, enabled⟩
  rw [Vector.mem_toList_iff, ← entry]
  exact Vector.getElem_mem i.isLt

theorem modeOf_modeCode (m : SurveyMode) : modeOf (modeCode m).toNat = m := by cases m <;> rfl

theorem pacingOf_pacingCode (p : Pacing) : pacingOf (pacingCode p).toNat = p := by cases p <;> rfl

theorem policyOf_policyCode (p : PreemptPolicy) : policyOf (policyCode p).toNat = p := by cases p <;> rfl

theorem modeCode_lt (m : SurveyMode) : (modeCode m).toNat < 3 := by cases m <;> decide

theorem pacingCode_lt (p : Pacing) : (pacingCode p).toNat < 2 := by cases p <;> decide

theorem policyCode_lt (p : PreemptPolicy) : (policyCode p).toNat < 2 := by cases p <;> decide

/-- Settles O27. -/
theorem surveyRunStartsPass : Obligations.SurveyRunStartsPass := by
  intro tag mode pacing policy lo hi s executes stopped enabled interval least number
  obtain ⟨i, d, entry, isEnabled⟩ := enabled
  let payload := [modeCode mode, pacingCode pacing, policyCode policy, lo, hi]
  have modeByte : u8 payload 0 = (modeCode mode).toNat := rfl
  have pacingByte : u8 payload 1 = (pacingCode pacing).toNat := rfl
  have policyByte : u8 payload 2 = (policyCode policy).toNat := rfl
  have intervalBytes : u16 payload 3 = interval := rfl
  have passes : firstFailure (surveyRunChecks payload s.frameArrives) = none := by
    simp only [firstFailure_eq_none_iff, surveyRunChecks, rangeCheck, exactLength, lengthCheck, stateCheck,
      List.forall_mem_cons, modeByte, pacingByte, policyByte, intervalBytes]
    refine ⟨rfl, decide_eq_true (modeCode_lt mode), decide_eq_true (pacingCode_lt pacing),
      decide_eq_true (policyCode_lt policy), decide_eq_true least, decide_eq_true stopped, Survey.hasEnabled_of_entry (v := s.survey) entry isEnabled, by simp⟩
  have runs : (s.survey.run payload).startPass s.timebase =
      { s.survey with
        state := .running, mode := mode, pacing := pacing, policy := policy, interval := interval, lost := 0
        tickPending := false, cursor := 0, inPass := true, passNumber := number, passStart := s.timebase
        pace := if mode = SurveyMode.timed then some (interval * ticksPerMs) else none
        floorLeft := 2000 } := by
    simp only [Survey.run, Survey.startPass, modeByte, pacingByte, policyByte, intervalBytes, modeOf_modeCode,
      pacingOf_pacingCode, policyOf_policyCode]
    cases mode <;> rfl
  have carriedOut := exec_of_passes (c := .surveyRun tag payload) (s := s)
    (t := { s.frameArrives with survey := (s.survey.run payload).startPass s.timebase }.wakeEngine)
    (bytes := le 2 ((s.survey.run payload).startPass s.timebase).passNumber.toNat) rfl executes rfl passes
  rw [runs] at carriedOut
  exact carriedOut

theorem Survey.resumePass_of_rests {v : Survey} (now : Word32)
    (h : ¬((v.mode = .timed ∧ v.tickPending = true) ∨ (v.mode = .continuous ∧ v.floorLeft = 0))) :
    v.resumePass now = v := by
  cases mode : v.mode with
  | single => simp only [Survey.resumePass, mode]
  | continuous => simp only [Survey.resumePass, mode, if_neg fun floor => h (.inr ⟨mode, floor⟩)]
  | timed => simp only [Survey.resumePass, mode, if_neg fun tick => h (.inl ⟨mode, tick⟩)]

theorem Survey.resumePass_of_starts {v : Survey} (now : Word32)
    (h : (v.mode = .timed ∧ v.tickPending = true) ∨ (v.mode = .continuous ∧ v.floorLeft = 0)) :
    v.resumePass now =
      { v with
        passNumber := v.passNumber + 1, cursor := 0, inPass := true, passStart := now, floorLeft := 2000
        tickPending := if v.mode = SurveyMode.timed then false else v.tickPending } := by
  rcases h with ⟨mode, tick⟩ | ⟨mode, floor⟩
  · simp only [Survey.resumePass, mode, if_pos tick, if_true, Survey.startPass, ticksPerMs]
  · simp only [Survey.resumePass, mode, if_pos floor, reduceCtorEq, if_false, Survey.startPass, ticksPerMs]

theorem State.resumeWork_of_inPass {s : State} (h : s.survey.inPass = true) : s.resumeWork = s.progressPass := if_pos h

theorem State.resumeWork_of_between {s : State} (h : s.survey.inPass = false) :
    s.resumeWork = { s with survey := s.survey.resumePass s.timebase } := if_neg (by simp [h])

/-- Settles O28. -/
theorem surveyHoldAndResume : Obligations.SurveyHoldAndResume := by
  refine ⟨fun tag s executes running => ?hold, fun tag s executes held => ?resume⟩
  case hold =>
    intro v
    refine ⟨exec_of_passes (c := .surveyHold tag []) rfl executes rfl ?_, State.offer_eq_none_of_idle (.inl (by simp [v]))⟩
    simp [firstFailure, exactLength, lengthCheck, stateCheck, running]
  case resume =>
    intro v starts
    have passes : firstFailure [exactLength 0 [], stateCheck (decide (s.frameArrives.survey.state = .held)) 0] =
        none := by
      simp [firstFailure, exactLength, lengthCheck, stateCheck, held]
    have carriedOut := exec_of_passes (c := .surveyResume tag []) (t := s.frameArrives.resumeSurvey) rfl executes rfl
      passes
    refine ⟨fun inPass => ?_, fun between rests => ?_, fun between start => ?_⟩ <;> rw [carriedOut, State.resumeSurvey]
    · rw [State.resumeWork_of_inPass (by exact inPass)]
      rfl
    · rw [State.resumeWork_of_between (by exact between), Survey.resumePass_of_rests _ (by exact rests)]
      rfl
    · rw [State.resumeWork_of_between (by exact between), Survey.resumePass_of_starts _ (by exact start)]
      rfl

section
variable {s : State} {j : Job}

theorem State.discardActiveSurvey_of_survey (active : s.engine.active = some j) (survey : j.isSurvey = true) :
    s.discardActiveSurvey = (s.setActive none).release j.reserved := by
  simp only [State.discardActiveSurvey, active, survey, if_true]

theorem State.discardActiveSurvey_of_other (other : ∀ k, s.engine.active = some k → k.isSurvey = false) :
    s.discardActiveSurvey = s := by
  cases active : s.engine.active with
  | none => simp only [State.discardActiveSurvey, active]
  | some k => simp only [State.discardActiveSurvey, active, other k active, Bool.false_eq_true, if_false]

theorem State.discardParkedSurvey_of_survey (parked : s.engine.parked = some j) (survey : j.isSurvey = true) :
    s.discardParkedSurvey = (s.setParked none).release j.reserved := by
  simp only [State.discardParkedSurvey, parked, survey, if_true]

theorem State.discardParkedSurvey_of_other (other : ∀ k, s.engine.parked = some k → k.isSurvey = false) :
    s.discardParkedSurvey = s := by
  cases parked : s.engine.parked with
  | none => simp only [State.discardParkedSurvey, parked]
  | some k => simp only [State.discardParkedSurvey, parked, other k parked, Bool.false_eq_true, if_false]

theorem State.release_eq (s : State) (held : Bool) :
    s.release held =
      { s with results := { s.results with
        reservations := if held then s.results.reservations - 1 else s.results.reservations } } := by
  cases held <;> rfl

end

/-- Settles O29. -/
theorem surveyStopDiscards : Obligations.SurveyStopDiscards := by
  intro tag s executes going v released ends
  have passes : firstFailure [exactLength 0 [], stateCheck (decide (s.frameArrives.survey.state ≠ .stopped)) 0] =
      none := by
    simp [firstFailure, exactLength, lengthCheck, stateCheck, going]
  have carriedOut := exec_of_passes (c := .surveyStop tag []) (t := s.frameArrives.stopSurvey) rfl executes rfl passes
  have stopped (u : State) (h : v.discardActiveSurvey.discardParkedSurvey = u) : ends u := by
    have stops : s.frameArrives.stopSurvey = u.wakeEngine := by rw [← h]; rfl
    rw [stops] at carriedOut
    exact carriedOut
  refine ⟨fun none => stopped _ ?_, fun j active survey noParked => stopped _ ?_,
    fun j parked survey other => stopped _ ?_⟩
  · rw [State.discardActiveSurvey_of_other (s := v) fun k h => none k (.inl h),
      State.discardParkedSurvey_of_other (s := v) fun k h => none k (.inr h)]
  · rw [State.discardActiveSurvey_of_survey (s := v) active survey, State.release_eq]
    exact State.discardParkedSurvey_of_other fun k h => absurd (noParked.symm.trans h) (by simp)
  · rw [State.discardActiveSurvey_of_other (s := v) other, State.discardParkedSurvey_of_survey (s := v) parked survey,
      State.release_eq]
    rfl

/-! ## SPOT and SPOT_CANCEL (R81, R84) -/

/-- Settles O30. -/
theorem spotQueueRequests : Obligations.SpotQueueRequests := by
  refine ⟨fun tag eByte shiftByte lo hi p q s executes least most e shift gate room => ?spot,
    fun tag target s executes named queued => ?cancel⟩
  case spot =>
    let payload := [portByte p, BitVec.ofNat 8 (quantityCode q), eByte, shiftByte, lo, hi]
    have port : u8 payload 0 = p.val := toNat_portByte p
    have quantity : u8 payload 1 = quantityCode q := toNat_ofNat_of_lt (by have := quantityCode_lt q; omega)
    have samples : u8 payload 2 = eByte.toNat := rfl
    have shifts : u8 payload 3 = shiftByte.toNat := rfl
    have timeout : u16 payload 4 = lo.toNat + 256 * hi.toNat := rfl
    have passes : firstFailure (spotChecks tag payload s.frameArrives) = none := by
      simp only [firstFailure_eq_none_iff, spotChecks, rangeCheck, exactLength, lengthCheck, within, spotPlaces,
        List.forall_mem_cons, port, quantity, samples, shifts, timeout]
      refine ⟨rfl, by simp [least, most], by simp, by simp [quantityCode_lt], by simpa using e, by simpa using shift,
        by simpa using gate, decide_eq_true room, by simp⟩
    have request : requestedSpot tag payload =
        { tag := tag, port := p, quantity := q, e := eByte.toNat, shift := shiftByte.toNat
          gateTimeout := lo.toNat + 256 * hi.toNat } := by
      simp only [requestedSpot, portAt_of_byteAt (payload := payload) (i := 0) rfl, quantity, quantityOf_quantityCode,
        samples, shifts, timeout]
    have carriedOut := exec_of_passes (c := .spot tag payload)
      (t := s.frameArrives.queueSpot (requestedSpot tag payload)) rfl executes rfl passes
    rw [request] at carriedOut
    exact carriedOut
  case cancel =>
    intro removed
    refine exec_of_passes (c := .spotCancel tag [target]) (t := s.frameArrives.cancelSpots target) rfl executes rfl ?_
    have some : (s.frameArrives.spotsTagged target).isEmpty = false := by
      obtain ⟨r, member, rTag⟩ := queued
      rw [List.isEmpty_eq_false_iff_exists_mem]
      exact ⟨r, List.mem_filter.mpr ⟨member, decide_eq_true rTag⟩⟩
    have nonzero : decide (byteAt [target] 0 ≠ 0) = true := decide_eq_true named
    have found : !(s.frameArrives.spotsTagged (byteAt [target] 0)).isEmpty := by
      rw [show byteAt [target] 0 = target from rfl, some]
      rfl
    simp only [firstFailure_eq_none_iff, rangeCheck, List.forall_mem_cons]
    exact ⟨rfl, nonzero, found, by simp⟩

end Sys2Proof.Machine
end
section
/-! Chapter 6: openings and closings of a port's switch, trips, verdicts and timers (R106 to R119, R125). -/
namespace Sys2Proof.Machine

/-! ## The moves of the switch record -/

theorem State.setPort_setPort (s : State) (p : PortId) (r r' : Port) :
    (s.setPort p r).setPort p r' = s.setPort p r' := State.modPort_modPort ..

@[simp] theorem State.port_setPort_same (s : State) (p : PortId) (r : Port) : (s.setPort p r).port p = r :=
  State.port_modPort_same ..

theorem State.modSwitch_eq_setPort (s : State) (p : PortId) (f : Params → SwitchRec → SwitchRec) :
    s.modSwitch p f = s.setPort p { s.port p with switch := f (s.port p).params (s.port p).switch } := rfl

/-- The retry step while tries are left (R114). -/
theorem SwitchRec.retry_of_more {q : Params} {w : SwitchRec} (more : w.retries + 1 < q.maxRetries) :
    w.retry q =
      { w with
        state := .holdoff, retries := w.retries + 1, hold := some (q.holdTime * 10 * ticksPerMs), settle := none
        slot := .empty } := if_neg (Nat.not_le.mpr more)

/-- The retry step that gives up (R114). -/
theorem SwitchRec.retry_of_last {q : Params} {w : SwitchRec} (last : q.maxRetries ≤ w.retries + 1) :
    w.retry q =
      { w with
        state := .isolated, cause := .giveup, retries := w.retries + 1, hold := none, settle := none
        slot := .empty } := if_pos last

theorem Port.givesUp_of_more {r : Port} (more : r.switch.retries + 1 < r.params.maxRetries) : r.givesUp = false :=
  decide_eq_false (Nat.not_le.mpr more)

theorem Port.givesUp_of_last {r : Port} (last : r.params.maxRetries ≤ r.switch.retries + 1) : r.givesUp = true :=
  decide_eq_true last

/-- A failed probe, or a trip in PROBING, as one update of the port's records and its occurrences (R114, R116). -/
theorem State.failProbe_eq (s : State) (p : PortId) (tripped : Bool) :
    s.failProbe p tripped =
      ((s.setPort p ((s.port p).opened s.timebase ((s.port p).switch.retry (s.port p).params))).engineOpening p).raiseAll
        (retryOccurrences p tripped (s.port p).givesUp) := by
  rw [State.failProbe, State.retryStep, State.openSwitch_modSwitch]

/-- An isolation of a closed port is an opening (R118). -/
theorem State.isolatePort_of_closed {s : State} {p : PortId} (cause : IsolationCause) (h : s.closed p = true) :
    s.isolatePort p cause =
      (s.setPort p ((s.port p).opened s.timebase ((s.port p).switch.isolate cause))).engineOpening p := by
  rw [← State.openSwitch_modSwitch s p fun _ w => w.isolate cause]
  exact if_pos h

theorem State.isolatePort_of_open {s : State} {p : PortId} (cause : IsolationCause) (h : s.closed p = false) :
    s.isolatePort p cause = s.setPort p { s.port p with switch := (s.port p).switch.isolate cause } :=
  if_neg (by simp [h])

/-- A join of an open port is a closing (R117). -/
theorem State.joinPort_of_open {s : State} {p : PortId} (h : s.closed p = false) :
    s.joinPort p =
      s.setPort p ((s.port p).joining s.timebase
        { (s.port p).switch with
          state := .probing, retries := 0, hold := none, settle := some ((s.port p).params.settleTime * ticksPerMs)
          slot := .empty }) :=
  (if_neg (by simp [h])).trans (State.closeSwitch_modSwitch s p fun q w => { w.probe q with retries := 0 })

theorem State.joinPort_of_closed {s : State} {p : PortId} (h : s.closed p = true) : s.joinPort p = s := if_pos h

/-! ## Overcurrent trips (R108, R109, R116) -/

theorem exec_overcurrentTrip (p : PortId) (s : State) :
    exec (.overcurrentTrip p) s = .next (s.overcurrent p).arbitrate := rfl

theorem State.overcurrent_of_open {s : State} {p : PortId} (h : s.closed p = false) : s.overcurrent p = s := by
  have isOpen : (s.port p).switch.state.closed = false := h
  unfold State.overcurrent
  cases state : (s.port p).switch.state with
  | isolated | holdoff => rfl
  | joined | probing => simp [state, SwitchState.closed] at isOpen

theorem State.overcurrent_of_joined {s : State} {p : PortId} (h : (s.port p).switch.state = .joined) :
    s.overcurrent p =
      ((s.setPort p ((s.port p).opened s.timebase
        { (s.port p).switch with
          state := .holdoff, retries := 0, hold := some ((s.port p).params.holdTime * 10 * ticksPerMs), settle := none
          slot := .empty })).engineOpening p).raise (.trip p) := by
  simp only [State.overcurrent, h, State.tripJoined, State.openSwitch_modSwitch, SwitchRec.holdOff, Params.holdTicks]

theorem State.overcurrent_of_probing {s : State} {p : PortId} (h : (s.port p).switch.state = .probing) :
    s.overcurrent p = s.failProbe p true := by
  simp only [State.overcurrent, h]

/-- Settles O35. -/
theorem overcurrentTrips : Obligations.OvercurrentTrips := by
  refine ⟨fun p s => ⟨fun isOpen => ?isOpen, fun joined => ?joined⟩,
    fun p s => fun probing => ⟨fun more => ?more, fun last => ?last⟩⟩
  case isOpen => rw [exec_overcurrentTrip, State.overcurrent_of_open isOpen]
  case joined => rw [exec_overcurrentTrip, State.overcurrent_of_joined joined]
  case more =>
    rw [exec_overcurrentTrip, State.overcurrent_of_probing probing, State.failProbe_eq, SwitchRec.retry_of_more more,
      Port.givesUp_of_more more]
    exact congrArg (Host.Outcome.next ∘ State.arbitrate) (State.raiseAll_one _ _)
  case last =>
    rw [exec_overcurrentTrip, State.overcurrent_of_probing probing, State.failProbe_eq, SwitchRec.retry_of_last last,
      Port.givesUp_of_last last]
    exact congrArg (Host.Outcome.next ∘ State.arbitrate) (State.raiseAll_two _ _ _)

/-! ## Verdicts on probes (R113 to R115) -/

theorem State.judgeProbe_of_not_probing {s : State} {p : PortId} (h : (s.port p).switch.state ≠ .probing)
    (value : Nat) : s.judgeProbe p value = s := if_neg h

/-- The value is stored first, and the verdict is given on the record that holds it (R113). -/
theorem State.judgeProbe_of_probing {s : State} {p : PortId} (h : (s.port p).switch.state = .probing) (value : Nat) :
    s.judgeProbe p value =
      (s.setPort p { s.port p with
        switch := { (s.port p).switch with slot := .empty, lastProbe := some value } }).probeVerdict p value := if_pos h

/-- Settles O37. -/
theorem probeVerdicts : Obligations.ProbeVerdicts := by
  intro p value s r tries
  let stored : Port := { r with switch := { r.switch with slot := .empty, lastProbe := some value } }
  have verdict (probing : r.switch.state = .probing) :
      s.judgeProbe p value = (s.setPort p stored).probeVerdict p value :=
    State.judgeProbe_of_probing probing value
  have port : (s.setPort p stored).port p = stored := State.port_setPort_same s p stored
  have failed (above : r.params.probeLimit < value) :
      (s.setPort p stored).probeVerdict p value =
        ((s.setPort p (stored.opened s.timebase (stored.switch.retry stored.params))).engineOpening p).raiseAll
          (retryOccurrences p false stored.givesUp) := by
    have fails : ¬value ≤ ((s.setPort p stored).port p).params.probeLimit := by rw [port]; exact Nat.not_le.mpr above
    rw [State.probeVerdict, if_neg fails, State.failProbe_eq, port, State.setPort_setPort]
    rfl
  refine ⟨fun gone => State.judgeProbe_of_not_probing gone value, fun probing within => ?passes,
    fun probing above more => ?more, fun probing above last => ?last⟩ <;> rw [verdict probing]
  case passes =>
    have passes : value ≤ ((s.setPort p stored).port p).params.probeLimit := by rw [port]; exact within
    rw [State.probeVerdict, if_pos passes, State.modSwitch_eq_setPort, port, State.setPort_setPort]
    rfl
  case more =>
    rw [failed above, SwitchRec.retry_of_more (q := stored.params) (w := stored.switch) more,
      Port.givesUp_of_more (r := stored) more]
    rfl
  case last =>
    rw [failed above, SwitchRec.retry_of_last (q := stored.params) (w := stored.switch) last,
      Port.givesUp_of_last (r := stored) last]
    exact State.raiseAll_one _ _

/-! ## PORT_JOIN and PORT_ISOLATE (R117, R118) -/

/-- A request that names one port and nothing else passes its checks. -/
theorem portRequest_passes (p : PortId) : firstFailure [exactLength 1 [portByte p], portCheck [portByte p]] = none := by
  have port : u8 [portByte p] 0 = p.val := toNat_portByte p
  simp [firstFailure, exactLength, lengthCheck, portCheck, rangeCheck, port]

theorem exec_portJoin (tag : Byte) {p : PortId} {s : State} (executes : s.Executes 0x12 tag) :
    exec (.portJoin tag [portByte p]) s =
      .next ((s.frameArrives.joinPort p).reply 0x12 tag
        (.ok [portByte p, switchCode ((s.frameArrives.joinPort p).port p).switch.state])).arbitrate := by
  have named : portAt [portByte p] 0 = p := portAt_of_byteAt rfl
  have answer := exec_of_passes (c := .portJoin tag [portByte p]) rfl executes rfl (portRequest_passes p)
  rw [named] at answer
  exact answer

theorem exec_portIsolate (tag : Byte) {p : PortId} {s : State} (executes : s.Executes 0x13 tag) :
    exec (.portIsolate tag [portByte p]) s =
      .next ((s.frameArrives.isolatePort p .host).reply 0x13 tag
        (.ok [portByte p, switchCode ((s.frameArrives.isolatePort p .host).port p).switch.state])).arbitrate := by
  have named : portAt [portByte p] 0 = p := portAt_of_byteAt rfl
  have answer := exec_of_passes (c := .portIsolate tag [portByte p]) rfl executes rfl (portRequest_passes p)
  rw [named] at answer
  exact answer

/-- Settles O38. -/
theorem portJoinAndIsolate : Obligations.PortJoinAndIsolate := by
  refine ⟨fun tag p s executes => ?join, fun tag p s executes => ?isolate⟩
  case join =>
    intro r a
    refine ⟨fun isOpen => ?_, fun closed => ?_⟩ <;> rw [exec_portJoin tag executes]
    · rw [State.joinPort_of_open (s := s.frameArrives) isOpen, State.port_setPort_same]
      rfl
    · rw [State.joinPort_of_closed (s := s.frameArrives) closed]
      have code : switchCode r.switch.state = if r.switch.state = .probing then 2 else 3 := by
        have shut : r.switch.state.closed = true := closed
        cases state : r.switch.state with
        | isolated | holdoff => simp [state, SwitchState.closed] at shut
        | joined | probing => rfl
      rw [show switchCode (s.frameArrives.port p).switch.state = _ from code]
  case isolate =>
    intro r a w
    refine ⟨fun isOpen => ?_, fun closed => ?_⟩ <;> rw [exec_portIsolate tag executes]
    · rw [State.isolatePort_of_open (s := s.frameArrives) .host isOpen, State.port_setPort_same]
      rfl
    · have opened := State.isolatePort_of_closed (s := s.frameArrives) .host closed
      have kept := ((State.engineOpening_keeps (a.setPort p (r.opened s.timebase w)) p).port p).state
      rw [State.port_setPort_same] at kept
      have state : ((s.frameArrives.isolatePort p .host).port p).switch.state = .isolated := by
        rw [opened]
        exact kept
      rw [state, opened]
      rfl

/-! ## The timers of the switch unit (R110, R111, R125) -/

theorem exec_holdTimerExpiry_of_idle {p : PortId} {s : State}
    (h : (s.port p).switch.state ≠ .holdoff ∨ (s.port p).switch.hold = none) :
    exec (.holdTimerExpiry p) s = .next s := by
  change execHoldTimerExpiry p s = _
  cases state : (s.port p).switch.state with
  | isolated | probing | joined => simp only [execHoldTimerExpiry, state]
  | holdoff => simp only [execHoldTimerExpiry, state, h.resolve_left (not_not.mpr state)]

theorem exec_holdTimerExpiry_of_running {p : PortId} {s : State} {left : Nat}
    (state : (s.port p).switch.state = .holdoff) (hold : (s.port p).switch.hold = some left) :
    exec (.holdTimerExpiry p) s = .next ((s.elapse left).holdExpires p) := by
  change execHoldTimerExpiry p s = _
  simp only [execHoldTimerExpiry, state, hold]

theorem exec_settleTimerExpiry_of_idle {p : PortId} {s : State}
    (h : (s.port p).switch.state ≠ .probing ∨ (s.port p).switch.settle = none) :
    exec (.settleTimerExpiry p) s = .next s := by
  change execSettleTimerExpiry p s = _
  cases state : (s.port p).switch.state with
  | isolated | holdoff | joined => simp only [execSettleTimerExpiry, state]
  | probing => simp only [execSettleTimerExpiry, state, h.resolve_left (not_not.mpr state)]

theorem exec_settleTimerExpiry_of_running {p : PortId} {s : State} {left : Nat}
    (state : (s.port p).switch.state = .probing) (settle : (s.port p).switch.settle = some left) :
    exec (.settleTimerExpiry p) s = .next ((s.elapse left).fillSlots.wakeEngine).arbitrate := by
  change execSettleTimerExpiry p s = _
  simp only [execSettleTimerExpiry, state, settle, State.answered]

theorem SwitchRec.settled_of_due {w : SwitchRec} (state : w.state = .probing) (settle : w.settle = some 0) :
    w.settled = { w with settle := none, slot := .waiting } := if_pos ⟨state, settle⟩

/-- The eight settle timers of a full reset with the strap high have all run out after 20 ms, and fill their slots
together. -/
theorem State.port_fillSlots_of_reset {straps : Straps} (high : straps.joinMode = true) (powerGood : Vector Bool 8)
    (lines : Vector Level 8) (q : PortId) :
    let v := ((State.atReset straps powerGood lines).elapse (20 * ticksPerMs)).fillSlots
    (v.port q).switch.slot = .waiting ∧ (v.port q).switch.state = .probing := by
  intro v
  have port : (v.port q).switch =
      (((State.atReset straps powerGood lines).port q).elapse (20 * ticksPerMs)).switch.settled := by
    simp only [v, State.port_fillSlots, State.port_elapse]
  rw [port, State.port_atReset, high, SwitchRec.settled_of_due rfl rfl]
  exact ⟨rfl, rfl⟩

/-- Settles O36. -/
theorem holdAndSettleTimers : Obligations.HoldAndSettleTimers := by
  refine ⟨fun p s => ⟨exec_holdTimerExpiry_of_idle, fun left state hold => ?hold⟩,
    fun p s => ⟨exec_settleTimerExpiry_of_idle, fun left state settle => ?settle⟩,
    fun straps powerGood lines p high => ?reset⟩
  case hold =>
    intro e r
    rw [exec_holdTimerExpiry_of_running state hold, State.holdExpires, State.closeSwitch_modSwitch]
    rfl
  case settle =>
    intro e
    have out : (e.port p).switch.state = .probing ∧ (e.port p).switch.settle = some 0 := by
      simp only [e, State.port_elapse, Port.elapse, SwitchRec.elapse, state, settle, Option.map_some, Nat.sub_self,
        and_self]
    refine ⟨e.fillSlots, exec_settleTimerExpiry_of_running state settle, rfl, ?_, fun q => ?_⟩
    · rw [State.port_fillSlots, SwitchRec.settled_of_due out.1 out.2]
    · rw [State.port_fillSlots, SwitchRec.settled]
      split <;> rfl
  case reset =>
    let s := State.atReset straps powerGood lines
    let v := (s.elapse (20 * ticksPerMs)).fillSlots
    have runs : (s.port p).switch.state = .probing ∧ (s.port p).switch.settle = some (20 * ticksPerMs) := by
      simp only [s, State.port_atReset, high]
      exact ⟨rfl, rfl⟩
    have slots (q : PortId) : (v.port q).switch.slot = .waiting :=
      (State.port_fillSlots_of_reset high powerGood lines q).1
    have closed : v.closed 0 = true := by
      rw [State.closed, (State.port_fillSlots_of_reset high powerGood lines 0).2]
      rfl
    have first := State.waitingProbe_eq_some v 0 (slots 0) fun q h => absurd h (Nat.not_lt_zero _)
    have taken := State.takeChoice_probe v 0 closed
    have starts : v.wakeEngine = v.takeChoice (.probe 0) :=
      State.wakeEngine_of_choice v _ rfl rfl (State.noPassEnd_of_not_running (s := v) (by simp [v, s, State.atReset,
        State.elapse, Survey.elapse, Survey.atReset])) (State.nextChoice_of_probe v 0 first) (by rw [taken]; rfl)
    refine ⟨_, exec_settleTimerExpiry_of_running runs.1 runs.2, ?_⟩
    change (v.wakeEngine.arbitrate).timebase = 20 ∧ _
    have ports (q : PortId) : (v.wakeEngine.arbitrate).port q = (v.takeChoice (.probe 0)).port q := by
      rw [State.port_congr (State.arbitrate_ports _) q, starts]
    have engine : v.wakeEngine.arbitrate.engine = (v.takeChoice (.probe 0)).engine := by
      rw [State.arbitrate_engine, starts]
    refine ⟨?_, ?_, ?_, ?_, fun q other => ?_⟩
    · rw [State.arbitrate_eq, starts, taken]
      change (0 : Word32) + BitVec.ofNat 32 ((0 + 20 * ticksPerMs) / ticksPerMs) = 20
      decide
    · rw [engine, taken]
      rfl
    · rw [ports, taken]
      exact congrArg (·.switch.slot) (State.port_setPort_same v 0 _)
    · rw [engine, taken]
      exact ⟨_, rfl, rfl⟩
    · rw [ports, taken]
      let served : Port := { v.port 0 with switch := { (v.port 0).switch with slot := .inEngine } }
      have stands : (v.setPort 0 served).port q = v.port q := State.port_modPort_of_ne v _ other
      exact (congrArg (·.switch.slot) stands).trans (slots q)

end Sys2Proof.Machine
end
section
/-! Chapter 7: which occurrences reach which flags and triggers (R129, R145), firings (R136 to R139), actions (R131), and
the requests on the reaction table (R132, R133). -/
namespace Sys2Proof.Machine

/-! ## Triggers and flags (R129, R145) -/

theorem ReactionConfig.admitsPort_iff (c : ReactionConfig) (p : PortId) :
    c.admitsPort p = true ↔ c.port = 0xFF ∨ c.port.toNat = p.val := by
  simp only [ReactionConfig.admitsPort, Bool.or_eq_true, decide_eq_true_eq]
  rfl

theorem noteFlag_port (p : PortId) : noteFlag p.castSucc = 10 := by
  have differ : p.castSucc ≠ deviceSource := fun e => by
    have value : p.val = 8 := congrArg Fin.val e
    omega
  exact if_neg differ

/-- Settles O42. -/
theorem occurrencesReachFlagsAndTriggers : Obligations.OccurrencesReachFlagsAndTriggers := by
  refine ⟨fun c p => ?triggers, fun p => ?flags, rfl, rfl, rfl, fun i => rfl⟩
  case triggers =>
    intro here
    have admits : c.admitsPort p = true ↔ here := c.admitsPort_iff p
    simp only [ReactionConfig.matchesTrigger, Bool.and_eq_true, decide_eq_true_eq, admits, and_assoc, implies_true,
      and_self]
  case flags =>
    simp only [Occurrence.flag, conditionFlag, portSource, noteFlag_port, Option.map_none, Option.map_some,
      implies_true, and_self]

/-! ## Firings (R136 to R139) -/

theorem ReactionEntry.ready_iff (e : ReactionEntry) (o : Occurrence) :
    e.ready o = true ↔ e.armed = true ∧ e.config.matchesTrigger o = true ∧ e.holdbackTimer = none := by
  simp [ReactionEntry.ready, and_assoc]

theorem State.offerTo_of_empty {o : Occurrence} {i : EntryId} {s : State} (h : s.reactions[i] = none) :
    s.offerTo o i = s := by
  simp only [State.offerTo, h]

theorem State.offerTo_of_entry {o : Occurrence} {i : EntryId} {s : State} {e : ReactionEntry}
    (h : s.reactions[i] = some e) : s.offerTo o i = if e.ready o then s.fire i e o.triggerPort else s := by
  simp only [State.offerTo, h]

/-- The record of a firing of an entry that was ready (R136 to R138). -/
theorem ReactionEntry.fired_of_ready {e : ReactionEntry} {o : Occurrence} (ready : e.ready o = true) (now : Word32)
    (outcome : FireOutcome) :
    e.fired now outcome =
      { e with
        fireCount := if e.fireCount < 255 then e.fireCount + 1 else e.fireCount
        lastFire := some now
        lastOutcome := outcome
        holdbackTimer := if e.config.holdback = 0 then none else some (e.config.holdback.toNat * ticksPerMs)
        armed := e.config.repeats } := by
  obtain ⟨armed, _, noHoldback⟩ := (e.ready_iff o).mp ready
  simp only [ReactionEntry.fired, armed, noHoldback, Bool.true_and, addUpTo]

theorem State.fire_eq (s : State) (i : EntryId) (e : ReactionEntry) (trigger : Option PortId) :
    s.fire i e trigger =
      ((s.performAction i e.config trigger).1.recordFiring i e (s.performAction i e.config trigger).2).reportOutcome
        (s.performAction i e.config trigger).2 := rfl

theorem exec_holdbackExpiry_of_stopped {i : EntryId} {s : State}
    (h : ∀ e, s.reactions[i] = some e → e.holdbackTimer = none) : exec (.holdbackExpiry i) s = .next s := by
  change execHoldbackExpiry i s = _
  have stopped : s.reactions[i].bind (·.holdbackTimer) = none := by
    cases entry : s.reactions[i] with
    | none => rfl
    | some e => exact h e entry
  simp only [execHoldbackExpiry, stopped]

theorem exec_holdbackExpiry_of_running {i : EntryId} {s : State} {e : ReactionEntry} {left : Nat}
    (entry : s.reactions[i] = some e) (timer : e.holdbackTimer = some left) :
    exec (.holdbackExpiry i) s =
      .next { s.elapse left with
        reactions := (s.elapse left).reactions.set i (some { e with holdbackTimer := none }) } := by
  have running : s.reactions[i].bind (·.holdbackTimer) = some left := by rw [entry]; exact timer
  have after : (s.elapse left).reactions[i].map ReactionEntry.holdbackEnds =
      some { e with holdbackTimer := none } := by
    have elapsed : (s.elapse left).reactions[i] = some (e.elapse left) := by
      rw [State.elapse, get_vmap, entry]
      rfl
    rw [elapsed]
    rfl
  change execHoldbackExpiry i s = _
  simp only [execHoldbackExpiry, running, after]

/-- Settles O43. -/
theorem entriesFire : Obligations.EntriesFire := by
  refine ⟨fun o s => rfl, fun o i s => ⟨State.offerTo_of_empty, fun e entry => ?fires⟩,
    fun i s => ⟨exec_holdbackExpiry_of_stopped, fun e left => exec_holdbackExpiry_of_running⟩⟩
  intro fires done recorded
  have offered := State.offerTo_of_entry (o := o) entry
  have firing (h : fires) : s.offerTo o i = recorded.reportOutcome done.2 := by
    have ready := (e.ready_iff o).mpr h
    have now : done.1.timebase = s.timebase := (State.performAction_keeps s i e.config o.triggerPort).timebase
    have record : done.1.recordFiring i e done.2 = recorded := by
      rw [State.recordFiring,
        (congrArg (e.fired · done.2) now).trans (ReactionEntry.fired_of_ready ready s.timebase done.2)]
    rw [offered, if_pos ready, State.fire_eq, record]
  refine ⟨fun no => ?_, fun h outcome => ?_, fun h outcome => ?_⟩
  · rw [offered, if_neg (mt (e.ready_iff o).mp no)]
  · rw [firing h, outcome]
    rfl
  · rw [firing h]
    rcases outcome with full | state
    · rw [full]
      rfl
    · rw [state]
      rfl

/-! ## Targets (R131, 10.2) -/

theorem portOf_portByte (p : PortId) : portOf (portByte p) = some p := by
  have value : (portByte p).toNat = p.val := toNat_portByte p
  simp only [portOf, value, p.isLt, dif_pos, Fin.eta]

theorem sourcePort_portSource (p : PortId) : sourcePort (portSource p) = some p := dif_pos p.isLt

/-- SAME, or the code of a fixed port, as the target of a firing aimed at port `p`. -/
theorem ReactionConfig.resolve_of_port {c : ReactionConfig} {trigger : Option PortId} {p : PortId}
    (h : (c.target = 0xFE ∧ trigger = some p) ∨ c.target = portByte p) : c.resolve trigger = some (portSource p) := by
  rcases h with ⟨same, port⟩ | fixed
  · have isSame : c.target = sameTarget := same
    rw [ReactionConfig.resolve, if_pos isSame, port]
    rfl
  · have small : c.target.toNat < 8 := by rw [fixed, toNat_portByte]; exact p.isLt
    have notSame : c.target ≠ sameTarget := fun e => absurd (e ▸ small) (by decide)
    have notDevice : c.target ≠ deviceTarget := fun e => absurd (e ▸ small) (by decide)
    rw [ReactionConfig.resolve, if_neg notSame, if_neg notDevice, fixed, portOf_portByte]
    rfl

theorem ReactionConfig.targetPort_of_port {c : ReactionConfig} {trigger : Option PortId} {p : PortId}
    (h : (c.target = 0xFE ∧ trigger = some p) ∨ c.target = portByte p) : c.targetPort trigger = some p := by
  rw [ReactionConfig.targetPort, ReactionConfig.resolve_of_port h]
  exact sourcePort_portSource p

theorem ReactionConfig.resolve_of_device {c : ReactionConfig} (h : c.target = 0xFD) (trigger : Option PortId) :
    c.resolve trigger = some 8 := by
  have notSame : c.target ≠ sameTarget := by rw [h]; decide
  have isDevice : c.target = deviceTarget := h
  rw [ReactionConfig.resolve, if_neg notSame, if_pos isDevice]
  rfl

/-! ## Actions (R131, R140) -/

/-- Settles O44. -/
theorem actionsAct : Obligations.ActionsAct := by
  intro i c trigger s
  refine ⟨fun p target => ?port, fun device notify => ?device, fun hold running => ?hold, fun hold other => ?holdRefused,
    fun resume held => ?resume, fun resume other => ?resumeRefused⟩
  case port =>
    intro r isolated
    have aimed := ReactionConfig.targetPort_of_port target
    have source := ReactionConfig.resolve_of_port target
    refine ⟨fun action closed => ?_, fun action isOpen => ?_, fun action isOpen => ?_, fun action closed => ?_,
      fun action room => ?_, fun action full => ?_, fun action => ?_⟩ <;> simp only [State.performAction, action]
    · simp only [aimed, State.isolatePort_of_closed .reaction closed]
      rfl
    · simp only [aimed, State.isolatePort_of_open .reaction isOpen]
      rfl
    · simp only [aimed, State.joinPort_of_open isOpen]
      rfl
    · simp only [aimed, State.joinPort_of_closed closed]
    · simp only [aimed, spotPlaces, room, if_true]
      rfl
    · simp only [aimed, spotPlaces, Nat.not_lt.mpr full, if_false]
    · simp only [source]
      rfl
  case device => simp only [State.performAction, notify, ReactionConfig.resolve_of_device device]
  case hold =>
    simp only [State.performAction, hold, if_pos running]
    rfl
  case holdRefused => simp only [State.performAction, hold, if_neg other]
  case resume =>
    intro v starts
    have performs : s.performAction i c trigger = (s.resumeSurvey, .done) := by
      simp only [State.performAction, resume, if_pos held]
    refine ⟨fun inPass => ?_, fun between rests => ?_, fun between start => ?_⟩ <;>
      rw [performs, State.resumeSurvey]
    · rw [State.resumeWork_of_inPass (by exact inPass)]
    · rw [State.resumeWork_of_between (by exact between), Survey.resumePass_of_rests _ (by exact rests)]
    · rw [State.resumeWork_of_between (by exact between), Survey.resumePass_of_starts _ (by exact start)]
  case resumeRefused => simp only [State.performAction, resume, if_neg other]

/-! ## Numbers in a payload (R177) -/

theorem u16_of_le {n : Nat} (h : n < 65536) :
    (BitVec.ofNat 8 n).toNat + 256 * (BitVec.ofNat 8 (n / 256)).toNat = n := by
  simp only [BitVec.toNat_ofNat]
  omega

theorem ofNat_u16_of_le (w : Word16) :
    BitVec.ofNat 16 ((BitVec.ofNat 8 w.toNat).toNat + 256 * (BitVec.ofNat 8 (w.toNat / 256)).toNat) = w := by
  rw [u16_of_le w.isLt]
  simp

/-! ## Sets as masks (10.2) -/

theorem maskOf_succ (width : Nat) (f : Nat → Bool) :
    maskOf (width + 1) f = if f width then 2 ^ width + maskOf width f else maskOf width f := by
  simp only [maskOf, List.range_succ, List.foldl_append, List.foldl_cons, List.foldl_nil, Nat.add_comm]

/-- The mask has the bits of its members. -/
theorem testBit_maskOf (width : Nat) (f : Nat → Bool) (i : Nat) :
    (maskOf width f).testBit i = (decide (i < width) && f i) := by
  induction width with
  | zero => simp [maskOf]
  | succ width ih =>
    have bound : maskOf width f < 2 ^ width := maskOf_lt width f
    rw [maskOf_succ]
    rcases Nat.lt_trichotomy i width with below | rfl | above
    · have small : i < width + 1 := by omega
      simp only [below, small, decide_true, Bool.true_and] at ih ⊢
      split
      · rw [Nat.testBit_two_pow_add_gt below, ih]
      · exact ih
    · have clear : (maskOf i f).testBit i = false := Nat.testBit_lt_two_pow bound
      split
      next member => simp [Nat.testBit_two_pow_add_eq, clear, member]
      next other => simp [clear, other]
    · have large : ¬i < width + 1 := by omega
      have whole : (if f width then 2 ^ width + maskOf width f else maskOf width f) < 2 ^ i := by
        have double : 2 ^ (width + 1) ≤ 2 ^ i := Nat.pow_le_pow_right (by omega) above
        split <;> omega
      simp [large, Nat.testBit_lt_two_pow whole]

/-! ## REACTION_SET (R132) -/

theorem triggerOf_triggerCode (k : TriggerKind) : triggerOf (triggerCode k).toNat = k := by cases k <;> rfl

theorem actionOf_actionCode (a : ReactionAction) : actionOf (actionCode a).toNat = a := by cases a <;> rfl

theorem triggerCode_lt (k : TriggerKind) : (triggerCode k).toNat < 8 := by cases k <;> decide

theorem actionCode_lt (a : ReactionAction) : (actionCode a).toNat < 6 := by cases a <;> decide

theorem flagByte_beq_one (b : Bool) : ((flagByte b).toNat == 1) = b := by cases b <;> rfl

theorem flagByte_lt (b : Bool) : (flagByte b).toNat < 2 := by cases b <;> decide

/-- The configuration bytes describe the configuration they were made of. -/
theorem describedReaction_configBytes (index : Byte) (c : ReactionConfig) :
    describedReaction ([index, 1] ++ reactionConfigBytes c) = c := by
  let payload := [index, 1] ++ reactionConfigBytes c
  have kind : triggerOf (u8 payload 2) = c.kind := triggerOf_triggerCode c.kind
  have action : actionOf (u8 payload 8) = c.action := actionOf_actionCode c.action
  have threshold : word16At payload 4 = c.threshold := ofNat_u16_of_le c.threshold
  have timeout : word16At payload 12 = c.spotGateTimeout := ofNat_u16_of_le c.spotGateTimeout
  have holdback : word16At payload 16 = c.holdback := ofNat_u16_of_le c.holdback
  have repeats : (u8 payload 15 == 1) = c.repeats := flagByte_beq_one c.repeats
  change describedReaction payload = c
  rw [describedReaction, kind, action, threshold, timeout, holdback, repeats]
  rfl

end Sys2Proof.Machine
end
section
/-! Chapter 7, the requests on the reaction table: REACTION_SET (R132) and REACTION_ARM (R133). -/
namespace Sys2Proof.Machine

/-! ## REACTION_SET (R132) -/

theorem TriggerKind.usesCondition_iff (k : TriggerKind) :
    k.usesCondition = true ↔ k = .condition ∨ k = .dwell := by
  cases k <;> simp [TriggerKind.usesCondition]

theorem TriggerKind.usesMonitor_iff (k : TriggerKind) :
    k.usesMonitor = true ↔ k = .monTrip ∨ k = .monRelease := by
  cases k <;> simp [TriggerKind.usesMonitor]

theorem ReactionAction.usesTarget_iff (a : ReactionAction) :
    a.usesTarget = true ↔ a = .isolate ∨ a = .rejoin ∨ a = .spot ∨ a = .notify := by
  cases a <;> simp [ReactionAction.usesTarget]

theorem ReactionAction.needsPort_iff (a : ReactionAction) :
    a.needsPort = true ↔ a.usesTarget = true ∧ a ≠ .notify := by
  cases a <;> simp [ReactionAction.needsPort, ReactionAction.usesTarget]

/-- A field that is checked only where it is used. -/
theorem usedCheck_passes_iff (used passes : Bool) (position : Nat) :
    (usedCheck used passes position).passes = true ↔ (used = true → passes = true) := by
  cases used <;> simp [usedCheck, rangeCheck]

theorem Word16.one_le_toNat {w : Word16} (h : w ≠ 0) : 1 ≤ w.toNat := by
  have nonzero : w.toNat ≠ 0 := fun e => h (BitVec.eq_of_toNat_eq e)
  omega

theorem Byte.toNat_ne_zero {b : Byte} (h : b ≠ 0) : b.toNat ≠ 0 := fun e => h (BitVec.eq_of_toNat_eq e)

/-- The bytes of an acceptable configuration pass the checks of its fields (R132). -/
theorem reactionFieldChecks_pass (index : Byte) {c : ReactionConfig} (acceptable : c.Acceptable) :
    ∀ check ∈ reactionFieldChecks ([index, 1] ++ reactionConfigBytes c), check.passes = true := by
  obtain ⟨condition, notUnseen, threshold, monitor, port, spot, target⟩ := acceptable
  let payload := [index, 1] ++ reactionConfigBytes c
  have kindByte : u8 payload 2 = (triggerCode c.kind).toNat := rfl
  have conditionByte : u8 payload 3 = c.condition.toNat := rfl
  have thresholdBytes : u16 payload 4 = c.threshold.toNat := u16_of_le c.threshold.isLt
  have monitorByte : u8 payload 6 = c.monitor.toNat := rfl
  have portByte : u8 payload 7 = c.port.toNat ∧ byteAt payload 7 = c.port := ⟨rfl, rfl⟩
  have actionByte : u8 payload 8 = (actionCode c.action).toNat := rfl
  have spotBytes : u8 payload 9 = c.spotQuantity.toNat ∧ u8 payload 10 = c.spotE.toNat ∧
      u8 payload 11 = c.spotShift.toNat := ⟨rfl, rfl, rfl⟩
  have timeoutBytes : u16 payload 12 = c.spotGateTimeout.toNat := u16_of_le c.spotGateTimeout.isLt
  have targetByte : u8 payload 14 = c.target.toNat ∧ byteAt payload 14 = c.target := ⟨rfl, rfl⟩
  have repeatsByte : u8 payload 15 = (flagByte c.repeats).toNat := rfl
  have targets (h : c.action.usesTarget = true) := target ((ReactionAction.usesTarget_iff _).mp h)
  change ∀ check ∈ reactionFieldChecks payload, check.passes = true
  simp only [reactionFieldChecks, kindByte, conditionByte, thresholdBytes, monitorByte, portByte, actionByte, spotBytes,
    timeoutBytes, targetByte, repeatsByte, triggerOf_triggerCode, actionOf_actionCode, List.forall_mem_cons,
    usedCheck_passes_iff, decide_eq_true_eq, Bool.or_eq_true, Bool.and_eq_true]
  refine ⟨decide_eq_true (triggerCode_lt _), fun used => condition ((TriggerKind.usesCondition_iff _).mp used),
    fun dwell => Word16.one_le_toNat (threshold dwell), fun used => monitor ((TriggerKind.usesMonitor_iff _).mp used),
    port, decide_eq_true (actionCode_lt _), fun h => (spot h).1, fun h => (spot h).2.1, fun h => (spot h).2.2.1,
    fun h => Word16.one_le_toNat (spot h).2.2.2, fun used => ?target, decide_eq_true (flagByte_lt _),
    fun h => Byte.toNat_ne_zero (notUnseen h), fun ⟨used, linkLost⟩ => (targets used).2 linkLost, fun needs => ?needsPort,
    by simp⟩
  case target =>
    obtain ⟨isPort | same | ⟨device, _⟩, _⟩ := targets used
    · exact .inl (.inl isPort)
    · exact .inl (.inr same)
    · exact .inr device
  case needsPort =>
    obtain ⟨used, notNotify⟩ := (ReactionAction.needsPort_iff _).mp needs
    obtain ⟨isPort | same | ⟨_, notify⟩, _⟩ := targets used
    · exact fun device => absurd (device ▸ isPort) (by decide)
    · exact fun device => absurd (same.symm.trans device) (by decide)
    · exact absurd notify notNotify

theorem entryAt_of_index (i : EntryId) (rest : List Byte) : entryAt (BitVec.ofNat 8 i.val :: rest) = i := by
  have index : u8 (BitVec.ofNat 8 i.val :: rest) 0 = i.val := toNat_ofNat_of_lt (by omega)
  simp [entryAt, index]

theorem reactionSetChecks_header (i : EntryId) {occupancy : Byte} (known : occupancy.toNat < 2) {rest : List Byte}
    (length : rest.length = 16) :
    ∀ check ∈ [exactLength 18 (BitVec.ofNat 8 i.val :: occupancy :: rest),
        rangeCheck (decide (u8 (BitVec.ofNat 8 i.val :: occupancy :: rest) 0 < 24)) 2,
        rangeCheck (decide (u8 (BitVec.ofNat 8 i.val :: occupancy :: rest) 1 < 2)) 3], check.passes = true := by
  have index : u8 (BitVec.ofNat 8 i.val :: occupancy :: rest) 0 = i.val := toNat_ofNat_of_lt (by omega)
  have second : u8 (BitVec.ofNat 8 i.val :: occupancy :: rest) 1 = occupancy.toNat := rfl
  simp [exactLength, lengthCheck, rangeCheck, index, second, known, length]

theorem reactionConfigBytes_length (c : ReactionConfig) : (reactionConfigBytes c).length = 16 := rfl

/-! ## REACTION_ARM (R133) -/

/-- The arming of one entry where it is named. -/
theorem get_armedEntries (payload : List Byte) (reactions : Vector (Option ReactionEntry) 24) (i : EntryId) :
    (armedEntries payload reactions)[i] =
      if (u24 payload 0).testBit i.val then reactions[i].map fun e => { e with armed := u8 payload 3 == 1 }
      else reactions[i] := by
  have write : (fun (v : Vector (Option ReactionEntry) 24) (i : EntryId) =>
      if (u24 payload 0).testBit i.val then v.set i (v[i].map fun e => { e with armed := u8 payload 3 == 1 }) else v) =
      fun v i => v.set i
        (if (u24 payload 0).testBit i.val then v[i].map fun e => { e with armed := u8 payload 3 == 1 } else v[i]) := by
    funext v k
    split
    · rfl
    · exact (Vector.set_getElem_self k.isLt).symm
  have turns := get_foldl_indexes (fun (i : EntryId) (entry : Option ReactionEntry) =>
    if (u24 payload 0).testBit i.val then entry.map fun e => { e with armed := u8 payload 3 == 1 } else entry)
    reactions i
  rw [armedEntries, write, turns]

theorem testBit_armedSet (reactions : Vector (Option ReactionEntry) 24) (i : EntryId) :
    (armedSet reactions).testBit i.val = true ↔ ∃ e, reactions[i] = some e ∧ e.armed = true := by
  rw [armedSet, testBit_maskOf]
  simp [i.isLt, Option.any_eq_true]

theorem State.lowestEmptyNamed_eq_none {s : State} {payload : List Byte}
    (h : ∀ i : EntryId, (u24 payload 0).testBit i.val = true → s.reactions[i] ≠ none) :
    s.lowestEmptyNamed payload = none := by
  rw [State.lowestEmptyNamed, List.find?_eq_none]
  intro i _
  rw [Bool.and_eq_true, Option.isNone_iff_eq_none]
  exact fun ⟨named, empty⟩ => h i named empty

/-- The checks of an arming that names no EMPTY entry, or of a disarming (R133). -/
theorem reactionArmChecks_pass {payload : List Byte} {s : State} (length : payload.length = 4)
    (h : (u8 payload 3 = 1 ∧ ∀ i : EntryId, (u24 payload 0).testBit i.val = true → s.reactions[i] ≠ none) ∨
      u8 payload 3 = 0) :
    firstFailure (reactionArmChecks payload s) = none := by
  rw [firstFailure_eq_none_iff, reactionArmChecks]
  simp only [List.forall_mem_cons]
  rcases h with ⟨arm, full⟩ | disarm
  · rw [State.lowestEmptyNamed_eq_none full]
    simp [exactLength, lengthCheck, rangeCheck, stateCheck, length, arm]
  · refine ⟨by simp [exactLength, lengthCheck, length], by simp [rangeCheck, disarm], ?_, by simp⟩
    split <;> simp [stateCheck, disarm]

/-- Settles O41. -/
theorem reactionTableRequests : Obligations.ReactionTableRequests := by
  refine ⟨fun tag i s executes => ?set, fun tag b0 b1 b2 arm s executes => ?arm⟩
  case set =>
    intro index a
    let content := fun (occupancy : Byte) (rest : List Byte) =>
      if occupancy.toNat = 1 then some (ReactionEntry.fresh (describedReaction (index :: occupancy :: rest))) else none
    have written (occupancy : Byte) (rest : List Byte)
        (passes : firstFailure (reactionSetChecks (index :: occupancy :: rest)) = none) :
        exec (.reactionSet tag (index :: occupancy :: rest)) s =
          .next (({ a with reactions := s.reactions.set i (content occupancy rest) }).reply 0x38 tag
            (.ok [index])).arbitrate := by
      have answer : answerReactionSet (index :: occupancy :: rest) s.frameArrives =
          ({ a with reactions := s.reactions.set i (content occupancy rest) }, .ok [index]) := by
        simp only [answerReactionSet, validated_of_passes _ _ passes, index, entryAt_of_index]
        rfl
      exact exec_of_executes rfl executes answer
    refine ⟨fun ignored length => ?_, fun c acceptable => ?_⟩
    · refine written 0 ignored ?_
      have empty : ¬u8 (index :: 0 :: ignored) 1 = 1 := Nat.zero_ne_one
      rw [firstFailure_eq_none_iff, reactionSetChecks, if_neg empty, List.append_nil]
      exact reactionSetChecks_header i (by decide) length
    · have described : describedReaction (index :: 1 :: reactionConfigBytes c) = c :=
        describedReaction_configBytes index c
      have carriedOut := written 1 (reactionConfigBytes c) (by
        have entry : u8 (index :: 1 :: reactionConfigBytes c) 1 = 1 := rfl
        rw [firstFailure_eq_none_iff, reactionSetChecks, if_pos entry, List.forall_mem_append]
        exact ⟨reactionSetChecks_header i (by decide) (reactionConfigBytes_length c),
          reactionFieldChecks_pass index acceptable⟩)
      simp only [content, described] at carriedOut
      exact carriedOut
  case arm =>
    intro named full
    let payload := [b0, b1, b2, flagByte arm]
    have code : u8 payload 3 = (flagByte arm).toNat := rfl
    have passes : firstFailure (reactionArmChecks payload s.frameArrives) = none := by
      refine reactionArmChecks_pass rfl ?_
      cases arm with
      | true => exact .inl ⟨rfl, full rfl⟩
      | false => exact .inr rfl
    refine ⟨armedEntries payload s.reactions, armedSet (armedEntries payload s.reactions),
      exec_of_passes (c := .reactionArm tag payload) rfl executes rfl passes, fun i => ?_, testBit_armedSet _⟩
    have entry := get_armedEntries payload s.reactions i
    rw [code, flagByte_beq_one] at entry
    exact entry

end Sys2Proof.Machine
end
section
/-! Chapter 8, the return of SENT event records and the merge of each source's records into its oldest (R154). -/
namespace Sys2Proof.Machine

/-! ## One record joins another -/

theorem mem_foldl_insertNote (newer older : List Nat) (n : Nat) :
    n ∈ newer.foldl (fun ns k => insertNote k ns) older ↔ n ∈ older ∨ n ∈ newer := by
  induction newer generalizing older with
  | nil => simp
  | cons k newer ih =>
    rw [List.foldl_cons, ih, mem_insertNote, List.mem_cons]
    tauto

theorem foldl_insertNote_ascending (newer : List Nat) {older : List Nat} (h : older.Pairwise (· < ·)) :
    (newer.foldl (fun ns k => insertNote k ns) older).Pairwise (· < ·) := by
  induction newer generalizing older with
  | nil => exact h
  | cons k newer ih => exact ih (insertNote_ascending k h)

theorem EventRec.mem_absorb_notes (older newer : EventRec) (n : Nat) :
    n ∈ (older.absorb newer).notes ↔ n ∈ older.notes ∨ n ∈ newer.notes := mem_foldl_insertNote ..

/-- What the records of a source come to, its oldest having absorbed the newer ones in order. -/
theorem EventRec.foldl_absorb_fields (oldest : EventRec) (newer : List EventRec) :
    let merged := newer.foldl EventRec.absorb oldest
    merged.source = oldest.source ∧ merged.created = oldest.created ∧
      merged.newest = ((oldest :: newer).getLast (by simp)).newest ∧
      merged.flags = newer.foldl (fun flags e => flags ||| e.flags) oldest.flags ∧
      (∀ n, n ∈ merged.notes ↔ ∃ e ∈ oldest :: newer, n ∈ e.notes) ∧
      (oldest.notes.Pairwise (· < ·) → merged.notes.Pairwise (· < ·)) := by
  induction newer generalizing oldest with
  | nil => simp
  | cons e newer ih =>
    obtain ⟨source, created, newest, flags, notes, ascending⟩ := ih (oldest.absorb e)
    refine ⟨source, created, newest.trans ?_, flags, fun n => (notes n).trans ?_,
      fun h => ascending (foldl_insertNote_ascending e.notes h)⟩
    · cases newer with
      | nil => rfl
      | cons f newer => simp [List.getLast_cons]
    · simp only [List.exists_mem_cons_iff, EventRec.mem_absorb_notes, or_assoc]

/-! ## The merged records -/

/-- The records keep their places: a source that is there already adds none, a new one comes last. -/
theorem mergeInto_sources (merged : List EventRec) (e : EventRec) :
    (mergeInto merged e).map EventRec.source =
      if e.source ∈ merged.map EventRec.source then merged.map EventRec.source
      else merged.map EventRec.source ++ [e.source] := by
  induction merged with
  | nil => simp [mergeInto]
  | cons older rest ih =>
    by_cases same : older.source = e.source
    · simp [mergeInto, same, EventRec.absorb]
    · have differ : ¬e.source = older.source := fun h => same h.symm
      simp only [mergeInto, if_neg same, List.map_cons, ih, List.mem_cons, differ, false_or]
      split <;> simp

theorem mem_mergeInto_of_other {merged : List EventRec} {e m : EventRec} (h : m ∈ merged) (other : m.source ≠ e.source) :
    m ∈ mergeInto merged e := by
  induction merged with
  | nil => cases h
  | cons older rest ih =>
    rw [mergeInto]
    rcases List.mem_cons.mp h with rfl | later
    · rw [if_neg other]
      exact List.mem_cons_self
    · split
      · exact List.mem_cons_of_mem _ later
      · exact List.mem_cons_of_mem _ (ih later)

theorem absorb_mem_mergeInto {merged : List EventRec} {e m : EventRec} (h : m ∈ merged)
    (distinct : (merged.map EventRec.source).Nodup) (same : m.source = e.source) : m.absorb e ∈ mergeInto merged e := by
  induction merged with
  | nil => cases h
  | cons older rest ih =>
    obtain ⟨notLater, restDistinct⟩ := List.nodup_cons.mp distinct
    rw [mergeInto]
    rcases List.mem_cons.mp h with rfl | later
    · rw [if_pos same]
      exact List.mem_cons_self
    · have differ : ¬older.source = e.source := fun first =>
        notLater (List.mem_map.mpr ⟨m, later, same.trans first.symm⟩)
      rw [if_neg differ]
      exact List.mem_cons_of_mem _ (ih later restDistinct)

theorem mem_mergeInto_of_new {merged : List EventRec} {e : EventRec} (h : ∀ m ∈ merged, m.source ≠ e.source) :
    e ∈ mergeInto merged e := by
  induction merged with
  | nil => exact List.mem_singleton.mpr rfl
  | cons older rest ih =>
    obtain ⟨here, later⟩ := List.forall_mem_cons.mp h
    rw [mergeInto, if_neg here]
    exact List.mem_cons_of_mem _ (ih later)

/-! ## The return -/

theorem returnEvents_concat (events : List EventRec) (e : EventRec) :
    returnEvents (events ++ [e]) = mergeInto (returnEvents events) { e with send := .waiting } := by
  simp only [returnEvents, List.map_append, List.map_cons, List.map_nil, List.foldl_append, List.foldl_cons,
    List.foldl_nil]

theorem mem_returnEvents_sources (events : List EventRec) (i : SourceId) :
    i ∈ (returnEvents events).map EventRec.source ↔ i ∈ events.map EventRec.source := by
  induction events using List.reverseRecOn generalizing i with
  | nil => rfl
  | append_singleton events e ih =>
    rw [returnEvents_concat, mergeInto_sources, List.map_append, List.mem_append, List.map_singleton,
      List.mem_singleton]
    split
    next known =>
      rw [ih]
      refine ⟨.inl, ?_⟩
      rintro (there | rfl)
      · exact there
      · exact (ih _).mp known
    next new => rw [List.mem_append, ih, List.mem_singleton]

theorem returnEvents_sources_nodup (events : List EventRec) : ((returnEvents events).map EventRec.source).Nodup := by
  induction events using List.reverseRecOn with
  | nil => exact List.nodup_nil
  | append_singleton events e ih =>
    rw [returnEvents_concat, mergeInto_sources]
    split
    next known => exact ih
    next new => exact List.nodup_append.mpr ⟨ih, List.nodup_singleton _, fun a ha b hb => by
      rw [List.mem_singleton] at hb
      rintro rfl
      exact new (hb ▸ ha)⟩

/-- The place of a source's first record. -/
def firstPlace (events : List EventRec) (i : SourceId) : Nat := events.findIdx fun e => decide (e.source = i)

theorem firstPlace_concat_of_mem {events : List EventRec} {i : SourceId} (h : i ∈ events.map EventRec.source)
    (e : EventRec) : firstPlace (events ++ [e]) i = firstPlace events i := by
  obtain ⟨k, member, source⟩ := List.mem_map.mp h
  have found : events.findIdx (fun e => decide (e.source = i)) < events.length :=
    List.findIdx_lt_length_of_exists ⟨k, member, decide_eq_true source⟩
  rw [firstPlace, List.findIdx_append, if_pos found]
  rfl

theorem firstPlace_lt_of_mem {events : List EventRec} {i : SourceId} (h : i ∈ events.map EventRec.source) :
    firstPlace events i < events.length := by
  obtain ⟨k, member, source⟩ := List.mem_map.mp h
  exact List.findIdx_lt_length_of_exists ⟨k, member, decide_eq_true source⟩

theorem le_firstPlace_of_new {events : List EventRec} {i : SourceId} (h : i ∉ events.map EventRec.source)
    (e : EventRec) : events.length ≤ firstPlace (events ++ [e]) i := by
  have absent : events.findIdx (fun e => decide (e.source = i)) = events.length :=
    List.findIdx_eq_length.mpr fun k member =>
      decide_eq_false fun source => h (List.mem_map.mpr ⟨k, member, source⟩)
  rw [firstPlace, List.findIdx_append, if_neg (by omega)]
  omega

/-- The merged records stand in the order of their sources' first records. -/
theorem returnEvents_in_order (events : List EventRec) :
    ((returnEvents events).map EventRec.source).Pairwise fun i j => firstPlace events i < firstPlace events j := by
  induction events using List.reverseRecOn with
  | nil => exact List.Pairwise.nil
  | append_singleton events e ih =>
    have kept {i : SourceId} (h : i ∈ (returnEvents events).map EventRec.source) :
        firstPlace (events ++ [e]) i = firstPlace events i :=
      firstPlace_concat_of_mem ((mem_returnEvents_sources events i).mp h) e
    have earlier : ((returnEvents events).map EventRec.source).Pairwise fun i j =>
        firstPlace (events ++ [e]) i < firstPlace (events ++ [e]) j :=
      ih.imp_of_mem fun hi hj before => by rw [kept hi, kept hj]; exact before
    rw [returnEvents_concat, mergeInto_sources]
    split
    next known => exact earlier
    next new =>
      refine List.pairwise_append.mpr ⟨earlier, List.pairwise_singleton _ _, fun i hi j hj => ?_⟩
      rw [List.mem_singleton] at hj
      have absent : j ∉ events.map EventRec.source := fun h =>
        new (hj ▸ (mem_returnEvents_sources events j).mpr h)
      calc firstPlace (events ++ [e]) i = firstPlace events i := kept hi
        _ < events.length := firstPlace_lt_of_mem ((mem_returnEvents_sources events i).mp hi)
        _ ≤ firstPlace (events ++ [e]) j := le_firstPlace_of_new absent e

theorem foldl_absorb_concat (oldest : EventRec) (newer : List EventRec) (e : EventRec) :
    (newer ++ [e]).foldl EventRec.absorb oldest = (newer.foldl EventRec.absorb oldest).absorb e := by
  rw [List.foldl_append, List.foldl_cons, List.foldl_nil]

/-- The record of a source is its oldest, returned to WAITING, with the newer ones absorbed in order. -/
theorem mem_returnEvents_of_filter (events : List EventRec) (i : SourceId) (oldest : EventRec) (newer : List EventRec)
    (h : (events.filter fun e => decide (e.source = i)) = oldest :: newer) :
    newer.foldl EventRec.absorb { oldest with send := .waiting } ∈ returnEvents events := by
  induction events using List.reverseRecOn generalizing newer with
  | nil => cases h
  | append_singleton events e ih =>
    rw [returnEvents_concat]
    rw [List.filter_append] at h
    have source {older : List EventRec} (found : (events.filter fun e => decide (e.source = i)) = oldest :: older) :
        (older.foldl EventRec.absorb { oldest with send := .waiting }).source = i := by
      have first : oldest ∈ events.filter fun e => decide (e.source = i) := found ▸ List.mem_cons_self
      exact (EventRec.foldl_absorb_fields _ older).1.trans (of_decide_eq_true (List.mem_filter.mp first).2)
    by_cases here : e.source = i
    · have added : ([e].filter fun e => decide (e.source = i)) = [e] := by simp [here]
      rw [added] at h
      cases found : events.filter fun e => decide (e.source = i) with
      | nil =>
        rw [found] at h
        obtain ⟨rfl, rfl⟩ := List.cons.inj h
        refine mem_mergeInto_of_new fun m member sameSource => ?_
        have known : i ∈ events.map EventRec.source := (mem_returnEvents_sources events i).mp
          (List.mem_map.mpr ⟨m, member, sameSource.trans here⟩)
        obtain ⟨k, kMember, kSource⟩ := List.mem_map.mp known
        have listed : k ∈ events.filter fun e => decide (e.source = i) :=
          List.mem_filter.mpr ⟨kMember, decide_eq_true kSource⟩
        rw [found] at listed
        cases listed
      | cons first older =>
        rw [found, List.cons_append] at h
        obtain ⟨rfl, rfl⟩ := List.cons.inj h
        rw [foldl_absorb_concat]
        exact absorb_mem_mergeInto (ih older found) (returnEvents_sources_nodup events)
          ((source found).trans here.symm)
    · have dropped : ([e].filter fun e => decide (e.source = i)) = [] := by simp [here]
      rw [dropped, List.append_nil] at h
      exact mem_mergeInto_of_other (ih newer h) fun same => here (same.symm.trans (source h))

/-- Settles O47. -/
theorem sentEventsMerge : Obligations.SentEventsMerge := by
  intro events place
  have order := returnEvents_in_order events
  rw [List.pairwise_map] at order
  have sources (i : SourceId) (l : List EventRec) : (∃ e ∈ l, e.source = i) ↔ i ∈ l.map EventRec.source :=
    List.mem_map.symm
  refine ⟨returnEvents_waiting events, returnEvents_sources_nodup events, fun i => ?_, order,
    fun i oldest newer records => ?_⟩
  · rw [sources, sources, mem_returnEvents_sources]
  · obtain ⟨source, created, newest, flags, notes, ascending⟩ :=
      EventRec.foldl_absorb_fields { oldest with send := .waiting } newer
    have first : oldest ∈ events.filter fun e => decide (e.source = i) := records ▸ List.mem_cons_self
    refine ⟨_, mem_returnEvents_of_filter events i oldest newer records,
      source.trans (of_decide_eq_true (List.mem_filter.mp first).2), created, newest.trans ?_, flags, fun n => ?_,
      fun sorted => ascending (sorted oldest List.mem_cons_self)⟩
    · cases newer with
      | nil => rfl
      | cons e newer => simp [List.getLast_cons]
    · rw [notes n]
      simp only [List.exists_mem_cons_iff]

end Sys2Proof.Machine
end
section
/-! Chapter 8, SUMMARY_CLEAR (R149) and NOTIFY_MASK (R151), with the reading of a payload that lists items of one
width. -/
namespace Sys2Proof.Machine

/-! ## Lists of items in a payload (R177) -/

theorem byteAt_append_right (header rest : List Byte) (i : Nat) :
    byteAt (header ++ rest) (header.length + i) = byteAt rest i := by
  simp [byteAt, List.getElem?_append_right]

theorem byteAt_append_left {header : List Byte} {i : Nat} (h : i < header.length) (rest : List Byte) :
    byteAt (header ++ rest) i = byteAt header i := by
  simp [byteAt, List.getElem?_append_left h]

/-- Byte `j` of item `k` in a list of items that are each `width` bytes long. -/
theorem byteAt_flatMap {α : Type} {width : Nat} (item : α → List Byte) (items : List α)
    (length : ∀ a, (item a).length = width) {k j : Nat} (hk : k < items.length) (hj : j < width) :
    byteAt (items.flatMap item) (width * k + j) = byteAt (item items[k]) j := by
  induction items generalizing k with
  | nil => cases hk
  | cons a items ih =>
    rw [List.flatMap_cons]
    cases k with
    | zero =>
      rw [Nat.mul_zero, Nat.zero_add, byteAt_append_left (by rw [length]; exact hj)]
      rfl
    | succ k =>
      have place : width * (k + 1) + j = (item a).length + (width * k + j) := by
        rw [length, Nat.mul_succ]
        omega
      rw [place, byteAt_append_right, ih (Nat.lt_of_succ_lt_succ hk)]
      rfl

theorem length_flatMap_of_width {α : Type} {width : Nat} (item : α → List Byte) (items : List α)
    (length : ∀ a, (item a).length = width) : (items.flatMap item).length = width * items.length := by
  induction items with
  | nil => rfl
  | cons a items ih =>
    rw [List.flatMap_cons, List.length_append, ih, length, List.length_cons, Nat.mul_succ, Nat.add_comm]

/-- A count through the items' indexes is a walk through the items. -/
theorem foldl_range_eq_foldl {α β : Type} (items : List α) (step : β → Nat → β) (step' : β → α → β)
    (h : ∀ (v : β) (i : Nat) (hi : i < items.length), step v i = step' v items[i]) (v : β) :
    (List.range items.length).foldl step v = items.foldl step' v := by
  induction items generalizing step v with
  | nil => rfl
  | cons a items ih =>
    rw [List.length_cons, List.range_succ_eq_map, List.foldl_cons, List.foldl_map, List.foldl_cons,
      h v 0 (Nat.succ_pos _)]
    exact ih (fun v i => step v i.succ) (fun v i hi => h v (i + 1) (Nat.succ_lt_succ hi)) _

theorem flatMap_range_eq_flatMap {α β : Type} (items : List α) (f : Nat → List β) (g : α → List β)
    (h : ∀ (i : Nat) (hi : i < items.length), f i = g items[i]) :
    (List.range items.length).flatMap f = items.flatMap g := by
  induction items generalizing f with
  | nil => rfl
  | cons a items ih =>
    rw [List.length_cons, List.range_succ_eq_map, List.flatMap_cons, List.flatMap_map, List.flatMap_cons,
      h 0 (Nat.succ_pos _), ih (fun i => f i.succ) fun i hi => h (i + 1) (Nat.succ_lt_succ hi)]
    rfl

/-! ## The clear (R149) -/

/-- A pair of SUMMARY_CLEAR as it is sent. -/
def pairBytes (q : SourceId × Word16) : List Byte := BitVec.ofNat 8 q.1.val :: le 2 q.2.toNat

/-- The payload of SUMMARY_CLEAR. -/
def clearPayload (stampS : Word32) (pairs : List (SourceId × Word16)) : List Byte :=
  le 4 stampS.toNat ++ [BitVec.ofNat 8 pairs.length] ++ pairs.flatMap pairBytes

theorem byteAt_clearPayload (stampS : Word32) (pairs : List (SourceId × Word16)) {k j : Nat} (hk : k < pairs.length)
    (hj : j < 3) : byteAt (clearPayload stampS pairs) (5 + 3 * k + j) = byteAt (pairBytes pairs[k]) j := by
  rw [Nat.add_assoc]
  exact (byteAt_append_right (le 4 stampS.toNat ++ [BitVec.ofNat 8 pairs.length]) _ _).trans
    (byteAt_flatMap pairBytes pairs (fun _ => rfl) hk hj)

theorem u8_count_clearPayload (stampS : Word32) {pairs : List (SourceId × Word16)} (few : pairs.length ≤ 9) :
    u8 (clearPayload stampS pairs) 4 = pairs.length := toNat_ofNat_of_lt (by omega)

theorem u32_clearPayload (stampS : Word32) (pairs : List (SourceId × Word16)) :
    u32 (clearPayload stampS pairs) 0 = stampS.toNat := by
  rw [clearPayload, List.append_assoc]
  exact u32_le_append stampS _

section
variable {stampS : Word32} {pairs : List (SourceId × Word16)} {k : Nat} (hk : k < pairs.length)
include hk

theorem byteAt_source_clearPayload :
    byteAt (clearPayload stampS pairs) (5 + 3 * k) = BitVec.ofNat 8 pairs[k].1.val :=
  byteAt_clearPayload stampS pairs hk (j := 0) (by omega)

theorem pairSource_clearPayload : pairSource (clearPayload stampS pairs) k = pairs[k].1.val := by
  rw [pairSource, u8, byteAt_source_clearPayload hk]
  exact toNat_ofNat_of_lt (by omega)

theorem sourceOf_clearPayload : sourceOf (pairSource (clearPayload stampS pairs) k) = pairs[k].1 := by
  rw [pairSource_clearPayload hk]
  exact Fin.ext (Nat.mod_eq_of_lt pairs[k].1.isLt)

theorem pairFlags_clearPayload : pairFlags (clearPayload stampS pairs) k = pairs[k].2.toNat := by
  have low : byteAt (clearPayload stampS pairs) (6 + 3 * k) = BitVec.ofNat 8 pairs[k].2.toNat := by
    rw [show 6 + 3 * k = 5 + 3 * k + 1 by omega, byteAt_clearPayload stampS pairs hk (by omega)]
    rfl
  have high : byteAt (clearPayload stampS pairs) (6 + 3 * k + 1) = BitVec.ofNat 8 (pairs[k].2.toNat / 256) := by
    rw [show 6 + 3 * k + 1 = 5 + 3 * k + 2 by omega, byteAt_clearPayload stampS pairs hk (by omega)]
    rfl
  rw [pairFlags, u16, u8, u8, low, high]
  exact u16_of_le pairs[k].2.isLt

end

/-- The flags after the pairs' clears, pair by pair. -/
def clearPairs (stampS : Word32) (pairs : List (SourceId × Word16)) (flags : Vector (Vector (Option Word32) 11) 9) :
    Vector (Vector (Option Word32) 11) 9 :=
  pairs.foldl (fun v q => v.set q.1 (clearFlags stampS q.2.toNat v[q.1])) flags

theorem cleared_clearPayload (stampS : Word32) {pairs : List (SourceId × Word16)} (few : pairs.length ≤ 9)
    (u : Summary) :
    u.cleared (clearPayload stampS pairs) = { u with flags := clearPairs stampS pairs u.flags } := by
  have stamp : BitVec.ofNat 32 (u32 (clearPayload stampS pairs) 0) = stampS := by
    rw [u32_clearPayload]
    simp
  rw [Summary.cleared, u8_count_clearPayload stampS few, stamp]
  congr 1
  refine foldl_range_eq_foldl pairs _ _ (fun v k hk => ?_) u.flags
  simp only [sourceOf_clearPayload hk, pairFlags_clearPayload hk]

theorem get_clearPairs_of_unnamed {stampS : Word32} {pairs : List (SourceId × Word16)}
    (flags : Vector (Vector (Option Word32) 11) 9) {i : SourceId} (unnamed : ∀ q ∈ pairs, q.1 ≠ i) :
    (clearPairs stampS pairs flags)[i] = flags[i] := by
  induction pairs generalizing flags with
  | nil => rfl
  | cons q pairs ih =>
    obtain ⟨here, rest⟩ := List.forall_mem_cons.mp unnamed
    have differ : (q.1 : Nat) ≠ (i : Nat) := fun e => here (Fin.ext e)
    rw [show clearPairs stampS (q :: pairs) flags =
      clearPairs stampS pairs (flags.set q.1 (clearFlags stampS q.2.toNat flags[q.1])) from rfl, ih _ rest]
    simp [differ]

theorem get_clearPairs_of_mem {stampS : Word32} {pairs : List (SourceId × Word16)}
    (distinct : (pairs.map Prod.fst).Nodup) (flags : Vector (Vector (Option Word32) 11) 9) {q : SourceId × Word16}
    (named : q ∈ pairs) : (clearPairs stampS pairs flags)[q.1] = clearFlags stampS q.2.toNat flags[q.1] := by
  induction pairs generalizing flags with
  | nil => cases named
  | cons first pairs ih =>
    obtain ⟨notLater, restDistinct⟩ := List.nodup_cons.mp distinct
    rw [show clearPairs stampS (first :: pairs) flags =
      clearPairs stampS pairs (flags.set first.1 (clearFlags stampS first.2.toNat flags[first.1])) from rfl]
    rcases List.mem_cons.mp named with rfl | later
    · rw [get_clearPairs_of_unnamed _ fun k hk same => notLater (List.mem_map.mpr ⟨k, hk, same⟩)]
      simp
    · have differ : (first.1 : Nat) ≠ (q.1 : Nat) := fun e =>
        notLater (List.mem_map.mpr ⟨q, later, (Fin.ext e).symm⟩)
      rw [ih restDistinct _ later]
      congr 1
      simp [differ]

theorem clearFlag_eq (stampS : Word32) (named : Bool) (flag : Option Word32) :
    clearFlag stampS named flag =
      if named = true ∧ ∃ t, flag = some t ∧ t.toNat ≤ stampS.toNat then none else flag := by
  cases flag with
  | none => simp [clearFlag]
  | some t => simp [clearFlag, BitVec.le_def]

/-- Each flag after the clear of distinct sources' sets (R149). -/
theorem get_get_clearPairs {stampS : Word32} {pairs : List (SourceId × Word16)}
    (distinct : (pairs.map Prod.fst).Nodup) (flags : Vector (Vector (Option Word32) 11) 9) (i : SourceId) (f : FlagId) :
    (clearPairs stampS pairs flags)[i][f] =
      if (∃ q ∈ pairs, q.1 = i ∧ q.2.getLsbD f.val = true) ∧
          (∃ t, flags[i][f] = some t ∧ t.toNat ≤ stampS.toNat) then none
      else flags[i][f] := by
  by_cases named : ∃ q ∈ pairs, q.1 = i
  · obtain ⟨q, member, rfl⟩ := named
    have only (k : SourceId × Word16) (hk : k ∈ pairs) (same : k.1 = q.1) : k = q :=
      List.inj_on_of_nodup_map distinct hk member same
    have bit : (∃ k ∈ pairs, k.1 = q.1 ∧ k.2.getLsbD f.val = true) ↔ q.2.toNat.testBit f.val = true := by
      rw [BitVec.testBit_toNat]
      constructor
      · rintro ⟨k, hk, same, set⟩
        rw [only k hk same] at set
        exact set
      · exact fun set => ⟨q, member, rfl, set⟩
    rw [get_clearPairs_of_mem distinct flags member, get_clearFlags, clearFlag_eq]
    exact if_congr (and_congr bit.symm Iff.rfl) rfl rfl
  · have unnamed : ∀ q ∈ pairs, q.1 ≠ i := fun q member same => named ⟨q, member, same⟩
    rw [get_clearPairs_of_unnamed flags unnamed, if_neg]
    rintro ⟨⟨q, member, same, _⟩, _⟩
    exact named ⟨q, member, same⟩

theorem testBit_flagSet (u : Summary) (source : SourceId) (k : Nat) :
    (u.flagSet source).testBit k = true ↔
      k < flagCount source ∧ ∃ (f : FlagId) (t : Word32), f.val = k ∧ u.flags[source][f] = some t := by
  rw [Summary.flagSet, testBit_maskOf, Bool.and_eq_true, decide_eq_true_eq]
  refine and_congr_right fun _ => ?_
  split
  next small =>
    rw [Option.isSome_iff_exists]
    constructor
    · rintro ⟨t, h⟩
      exact ⟨⟨k, small⟩, t, rfl, h⟩
    · rintro ⟨f, t, rfl, h⟩
      exact ⟨t, h⟩
  next large =>
    refine iff_of_false Bool.false_ne_true ?_
    rintro ⟨f, t, rfl, _⟩
    exact large f.isLt

/-- The set that a list of pairs names for a source. -/
def namedFlags (pairs : List (SourceId × Word16)) (i : SourceId) : Nat :=
  ((pairs.find? fun q => decide (q.1 = i)).map fun q => q.2.toNat).getD 0

theorem namedFlags_of_mem {pairs : List (SourceId × Word16)} (distinct : (pairs.map Prod.fst).Nodup)
    {q : SourceId × Word16} (named : q ∈ pairs) : namedFlags pairs q.1 = q.2.toNat := by
  cases found : pairs.find? fun k => decide (k.1 = q.1) with
  | none => exact absurd rfl (of_decide_eq_false (Bool.eq_false_iff.mpr (List.find?_eq_none.mp found q named)))
  | some k =>
    have source : k.1 = q.1 := by simpa using List.find?_some found
    have same : k = q := List.inj_on_of_nodup_map distinct (List.mem_of_find?_eq_some found) named source
    rw [namedFlags, found, same]
    rfl

theorem summaryClearChecks_pass {stampS : Word32} {pairs : List (SourceId × Word16)} {s : State}
    (few : pairs.length ≤ 9) (distinct : (pairs.map Prod.fst).Nodup)
    (known : ∀ q ∈ pairs, q.2.toNat < 2 ^ (if q.1 = 8 then 4 else 11))
    (past : stampS.toNat ≤ s.summary.stamp.toNat) :
    firstFailure (summaryClearChecks (clearPayload stampS pairs) s) = none := by
  have count := u8_count_clearPayload stampS few
  have length : (clearPayload stampS pairs).length = 5 + 3 * pairs.length :=
    (List.length_append).trans (congrArg (5 + ·) (length_flatMap_of_width pairBytes pairs fun _ => rfl))
  rw [firstFailure_eq_none_iff]
  simp only [summaryClearChecks, List.cons_append, List.forall_mem_cons, List.forall_mem_append, count,
    List.forall_mem_map, List.mem_range, List.mem_flatMap]
  refine ⟨?length, by simp [rangeCheck, few], ⟨fun k hk => ?source, ?joint⟩, ?stamp, by simp⟩
  case length => simp [summaryClearLength, lengthCheck, count, length]
  case source =>
    rw [pairSource_clearPayload hk]
    exact decide_eq_true pairs[k].1.isLt
  case joint =>
    rintro check ⟨k, hk, member⟩
    have fresh : ((List.range k).all fun j => decide (pairSource (clearPayload stampS pairs) j ≠
        pairSource (clearPayload stampS pairs) k)) = true := by
      refine List.all_eq_true.mpr fun j hj => decide_eq_true ?_
      have before : j < k := List.mem_range.mp hj
      rw [pairSource_clearPayload (Nat.lt_trans before hk), pairSource_clearPayload hk]
      intro same
      have places := (List.nodup_iff_getElem?_ne_getElem?.mp distinct) j k before (by rw [List.length_map]; exact hk)
      refine places ?_
      rw [List.getElem?_map, List.getElem?_map, List.getElem?_eq_getElem (Nat.lt_trans before hk),
        List.getElem?_eq_getElem hk]
      exact congrArg some (Fin.ext same)
    have within : pairFlags (clearPayload stampS pairs) k <
        2 ^ flagCount (sourceOf (pairSource (clearPayload stampS pairs) k)) := by
      rw [pairFlags_clearPayload hk, sourceOf_clearPayload hk]
      exact known pairs[k] (List.getElem_mem hk)
    revert check
    simp only [pairChecks, List.forall_mem_cons]
    exact ⟨fresh, decide_eq_true within, by simp⟩
  case stamp =>
    rw [u32_clearPayload]
    exact decide_eq_true past

/-! ## NOTIFY_MASK (R151) -/

theorem toNat_append_bytes (hi lo : Byte) : (hi ++ lo : Word16).toNat = lo.toNat + 256 * hi.toNat := by
  rw [BitVec.toNat_append, ← Nat.shiftLeft_add_eq_or_of_lt lo.isLt, Nat.shiftLeft_eq]
  omega

theorem le_two_append_bytes (hi lo : Byte) : le 2 (hi ++ lo : Word16).toNat = [lo, hi] := by
  have low := lo.isLt
  have high := hi.isLt
  have first : BitVec.ofNat 8 (lo.toNat + 256 * hi.toNat) = lo := by
    apply BitVec.eq_of_toNat_eq
    simp only [BitVec.toNat_ofNat]
    omega
  have second : BitVec.ofNat 8 ((lo.toNat + 256 * hi.toNat) / 256) = hi := by
    apply BitVec.eq_of_toNat_eq
    simp only [BitVec.toNat_ofNat]
    omega
  rw [toNat_append_bytes, le, le, le, first, second]

theorem sourceOf_ofNat (source : SourceId) {payload : List Byte} {i : Nat}
    (h : byteAt payload i = BitVec.ofNat 8 source.val) : sourceOf (u8 payload i) = source := by
  rw [u8, h, toNat_ofNat_of_lt (by omega)]
  exact Fin.ext (Nat.mod_eq_of_lt source.isLt)

/-- Settles O46. -/
theorem summaryClearAndMask : Obligations.SummaryClearAndMask := by
  refine ⟨fun tag stampS pairs s executes few distinct known past => ?clear, fun tag lo hi source s executes => ?mask⟩
  case clear =>
    let u : Summary := { s.summary with flags := clearPairs stampS pairs s.summary.flags }
    have cleared : s.summary.cleared (clearPayload stampS pairs) = u := cleared_clearPayload stampS few s.summary
    have passes := summaryClearChecks_pass (s := s.frameArrives) few distinct known past
    have survivors : survivorBytes (clearPayload stampS pairs) u = le 4 s.summary.stamp.toNat ++
        pairs.flatMap fun (q : SourceId × Word16) =>
          BitVec.ofNat 8 q.1.val :: le 2 (namedFlags pairs q.1 &&& u.flagSet q.1) := by
      rw [survivorBytes, u8_count_clearPayload stampS few]
      congr 1
      refine flatMap_range_eq_flatMap pairs _ _ fun k hk => ?_
      rw [byteAt_source_clearPayload hk, pairFlags_clearPayload hk, sourceOf_clearPayload hk,
        namedFlags_of_mem distinct (List.getElem_mem hk)]
    refine ⟨u.flags, fun i => namedFlags pairs i &&& u.flagSet i, ?_, get_get_clearPairs distinct s.summary.flags,
      fun q member k => ?_⟩
    · have answer : answerSummaryClear (clearPayload stampS pairs) s.frameArrives =
          ({ s.frameArrives with summary := u }, .ok (survivorBytes (clearPayload stampS pairs) u)) := by
        simp only [answerSummaryClear, validated_of_passes _ _ passes, State.frameArrives_summary, cleared]
      rw [survivors] at answer
      exact exec_of_executes (exec_summaryClear ..) executes ((answerRequest_summaryClear ..).trans answer)
    · change (namedFlags pairs q.1 &&& u.flagSet q.1).testBit k = true ↔ _
      rw [namedFlags_of_mem distinct member, Nat.testBit_and, Bool.and_eq_true, testBit_flagSet, BitVec.testBit_toNat]
      refine and_congr_right fun set => and_iff_right_of_imp fun _ => ?_
      by_contra beyond
      have small : q.2.toNat < 2 ^ k :=
        Nat.lt_of_lt_of_le (known q member) (Nat.pow_le_pow_right (by omega) (Nat.not_lt.mp beyond))
      have clear := Nat.testBit_lt_two_pow small
      rw [BitVec.testBit_toNat, set] at clear
      cases clear
  case mask =>
    have index (write : Byte) : u8 [BitVec.ofNat 8 source.val, write, lo, hi] 0 = source.val :=
      toNat_ofNat_of_lt (by omega)
    have named (write : Byte) : sourceOf (u8 [BitVec.ofNat 8 source.val, write, lo, hi] 0) = source :=
      sourceOf_ofNat source rfl
    refine ⟨?keep, fun known => ?write⟩
    case keep =>
      have passes : firstFailure (notifyMaskChecks [BitVec.ofNat 8 source.val, 0, lo, hi]) = none := by
        rw [firstFailure_eq_none_iff]
        simp only [notifyMaskChecks, List.forall_mem_cons, usedCheck_passes_iff]
        refine ⟨rfl, ?_, rfl, fun h => absurd h Bool.false_ne_true, by simp⟩
        rw [index]
        exact decide_eq_true source.isLt
      have kept : s.summary.masked [BitVec.ofNat 8 source.val, 0, lo, hi] = s.summary := if_neg Nat.zero_ne_one
      have answer : answerNotifyMask [BitVec.ofNat 8 source.val, 0, lo, hi] s.frameArrives =
          (s.frameArrives, .ok (BitVec.ofNat 8 source.val :: le 2 s.summary.masks[source].toNat)) := by
        simp only [answerNotifyMask, validated_of_passes _ _ passes, State.frameArrives_summary, kept, named]
        rfl
      exact exec_of_executes rfl executes answer
    case write =>
      have mask : u16 [BitVec.ofNat 8 source.val, 1, lo, hi] 2 = lo.toNat + 256 * hi.toNat := rfl
      have note : (noteFlag source).val = if source = 8 then 3 else 10 := by
        rw [noteFlag]
        exact apply_ite Fin.val _ _ _
      have passes : firstFailure (notifyMaskChecks [BitVec.ofNat 8 source.val, 1, lo, hi]) = none := by
        rw [firstFailure_eq_none_iff]
        simp only [notifyMaskChecks, List.forall_mem_cons, usedCheck_passes_iff, named, mask, note]
        refine ⟨rfl, ?_, rfl, fun _ => decide_eq_true known, by simp⟩
        rw [index]
        exact decide_eq_true source.isLt
      have word : BitVec.ofNat 16 (lo.toNat + 256 * hi.toNat) = (hi ++ lo : Word16) := by
        rw [← toNat_append_bytes]
        simp
      have written : s.summary.masked [BitVec.ofNat 8 source.val, 1, lo, hi] =
          { s.summary with masks := s.summary.masks.set source (hi ++ lo) } := by
        have isWrite : u8 [BitVec.ofNat 8 source.val, 1, lo, hi] 1 = 1 := rfl
        simp only [Summary.masked, isWrite, if_true, named, mask, word]
      have answer : answerNotifyMask [BitVec.ofNat 8 source.val, 1, lo, hi] s.frameArrives =
          ({ s.frameArrives with summary :=
              { s.summary with masks := s.summary.masks.set source (hi ++ lo) } },
            .ok [BitVec.ofNat 8 source.val, lo, hi]) := by
        simp only [answerNotifyMask, validated_of_passes _ _ passes, State.frameArrives_summary, written, named]
        have mask' : (s.summary.masks.set source (hi ++ lo))[source] = hi ++ lo := by simp
        rw [mask', le_two_append_bytes]
        rfl
      exact exec_of_executes rfl executes answer

end Sys2Proof.Machine
end
section
/-! Chapter 9, the output arbiter (R167, R168) and what report frames carry (R177, R183, R184). -/
namespace Sys2Proof.Machine

/-! ## The arbiter's order (R167) -/

section
variable {s : State}

theorem State.arbitrate_of_busy {f : LineFrame} (line : s.link.line = some f) : s.arbitrate = s := by
  simp only [State.arbitrate, line]

theorem State.arbitrate_of_reply {body : List Byte} {rest : List (List Byte)} (line : s.link.line = none)
    (replies : s.link.replies = body :: rest) :
    s.arbitrate = s.putOnLine { report := false, bytes := frameBytes body } := by
  simp only [State.arbitrate, line, replies]

theorem State.arbitrate_of_retransmit {seq : Byte} {rest : List Byte} (line : s.link.line = none)
    (replies : s.link.replies = []) (retransmit : s.link.session.retransmit = seq :: rest) :
    s.arbitrate = s.retransmitHead seq rest := by
  simp only [State.arbitrate, line, replies, retransmit]

/-- The arbiter with neither a reply nor a retransmission to send. -/
theorem State.arbitrate_of_reports (line : s.link.line = none) (replies : s.link.replies = [])
    (retransmit : s.link.session.retransmit = []) :
    s.arbitrate = if s.windowOpen then s.startReport else s := by
  simp only [State.arbitrate, line, replies, retransmit]

theorem State.retransmitHead_of_frame {seq : Byte} (rest : List Byte) {f : LineFrame} (frame : s.sentFrame seq = some f) :
    s.retransmitHead seq rest =
      { s with link := { s.link with
        line := some f, session := { s.link.session with retransmit := rest, ackTimer := none } } } := by
  have kept : (s.modSession fun v => { v with retransmit := rest }).sentFrame seq = some f := frame
  simp only [State.retransmitHead, kept]
  rfl

theorem State.startReport_of_event {older newer : List EventRec} {e : EventRec}
    (events : s.summary.events = older ++ e :: newer) (sent : ∀ k ∈ older, k.send ≠ .waiting)
    (waiting : e.send = .waiting) :
    s.startReport =
      ({ s with summary := { s.summary with
          events := older ++ { e with send := .sent s.link.session.nextSeq } :: newer } }.takeNumber).putReport
        (eventFrame s.link.session.nextSeq e) := by
  simp only [State.startReport, events, sendFirstEvent_of_first _ older newer e sent waiting]

theorem State.startReport_of_result {older newer : List ResultRec} {r : ResultRec}
    (events : ∀ e ∈ s.summary.events, e.send ≠ .waiting) (queue : s.results.queue = older ++ r :: newer)
    (sent : ∀ k ∈ older, k.send ≠ .waiting) (waiting : r.send = .waiting) :
    s.startReport =
      ({ s with results := { s.results with
          queue := older ++ { r with send := .sent s.link.session.nextSeq } :: newer } }.takeNumber).putReport
        (resultFrame s.link.session.nextSeq r) := by
  simp only [State.startReport, sendFirstEvent_of_none _ _ events, queue,
    sendFirstResult_of_first _ older newer r sent waiting]

theorem State.startReport_of_none (events : ∀ e ∈ s.summary.events, e.send ≠ .waiting)
    (results : ∀ r ∈ s.results.queue, r.send ≠ .waiting) : s.startReport = s := by
  simp only [State.startReport, sendFirstEvent_of_none _ _ events, sendFirstResult_of_none _ _ results]

end

/-- Settles O55. -/
theorem outputArbiter : Obligations.OutputArbiter := by
  intro s v
  refine ⟨fun f => State.arbitrate_of_busy, fun line =>
    ⟨fun body rest replies => State.arbitrate_of_reply line replies, fun replies => ⟨fun seq rest f head frame => ?resend,
      fun none shut => ?shut, fun none opened room => ?report⟩⟩⟩
  case resend =>
    rw [State.arbitrate_of_retransmit line replies head]
    exact State.retransmitHead_of_frame rest frame
  case shut =>
    have closed : ¬s.windowOpen = true := by
      rw [State.windowOpen_iff]
      rintro ⟨opened, room⟩
      exact shut.elim (fun h => h opened) (Nat.not_le.mpr room)
    rw [State.arbitrate_of_reports line replies none, if_neg closed]
  case report =>
    intro numbered
    have starts : s.arbitrate = s.startReport := by
      rw [State.arbitrate_of_reports line replies none, if_pos ((State.windowOpen_iff s).mpr ⟨opened, room⟩)]
    rw [starts]
    refine ⟨fun older newer e events sent waiting => State.startReport_of_event events sent waiting,
      fun noEvent => ⟨fun older newer r queue sent waiting => State.startReport_of_result noEvent queue sent waiting,
        fun noResult => State.startReport_of_none noEvent noResult⟩⟩

/-! ## The bytes of frames and reports (R177, R183, R184) -/

theorem getElem?_le {width k : Nat} (v : Nat) (h : k < width) :
    (le width v)[k]? = some (BitVec.ofNat 8 (v / 256 ^ k)) := by
  induction width generalizing v k with
  | zero => cases h
  | succ width ih =>
    rw [le]
    cases k with
    | zero => simp
    | succ k => rw [List.getElem?_cons_succ, ih _ (Nat.lt_of_succ_lt_succ h), Nat.div_div_eq_div_mul, Nat.pow_succ']

/-- The mask of three members. -/
theorem maskOf_three (f : Nat → Bool) :
    maskOf 3 f = (if f 0 then 1 else 0) + (if f 1 then 2 else 0) + (if f 2 then 4 else 0) := by
  simp only [maskOf_succ]
  cases f 0 <;> cases f 1 <;> cases f 2 <;> rfl

theorem presenceByte_eq (r : ResultRec) :
    presenceByte r =
      (if (originPass r.origin).isSome then 1 else 0) + (if r.value.isSome then 2 else 0) +
        (if r.lost.isSome then 4 else 0) := maskOf_three _

theorem optionalBytes_eq (width : Nat) (field : Option Nat) :
    optionalBytes width field = field.toList.flatMap fun v => le width v := by
  cases field <;> simp [optionalBytes]

section
variable {s : State} {seq : Byte}

theorem find?_of_first {α : Type} {p : α → Bool} {older newer : List α} {a : α} (h : ∀ k ∈ older, p k = false)
    (ha : p a = true) : (older ++ a :: newer).find? p = some a := by
  have none : older.find? p = none := List.find?_eq_none.mpr fun k hk => by simp [h k hk]
  rw [List.find?_append, none, List.find?_cons, ha]
  rfl

theorem State.sentFrame_of_event {older newer : List EventRec} {e : EventRec}
    (events : s.summary.events = older ++ e :: newer) (others : ∀ k ∈ older, k.send ≠ .sent seq)
    (sent : e.send = .sent seq) : s.sentFrame seq = some (eventFrame seq e) := by
  have found : s.summary.events.find? (fun e => decide (e.send = .sent seq)) = some e :=
    events ▸ find?_of_first (fun k hk => decide_eq_false (others k hk)) (decide_eq_true sent)
  simp only [State.sentFrame, found]

/-- With no event record under the number, the frame is that of a result record. -/
theorem State.sentFrame_of_no_event (events : ∀ k ∈ s.summary.events, k.send ≠ .sent seq) :
    s.sentFrame seq = (s.results.queue.find? fun r => decide (r.send = .sent seq)).map (resultFrame seq) := by
  have none : s.summary.events.find? (fun e => decide (e.send = .sent seq)) = none :=
    List.find?_eq_none.mpr fun k hk => by simp [events k hk]
  simp only [State.sentFrame, none]

end

/-- Settles O56. -/
theorem reportsCarryRecords : Obligations.ReportsCarryRecords := by
  refine ⟨fun width v => ⟨le_length width v, fun k => getElem?_le v⟩, fun body => rfl, fun r send => ⟨?result, rfl⟩,
    fun e send => ⟨rfl, rfl⟩, fun seq s => ⟨fun older newer e => State.sentFrame_of_event, fun noEvent => ⟨?sent, ?none⟩⟩⟩
  case result =>
    have presence : le 1 (presenceByte r) = _ := congrArg (le 1) (presenceByte_eq r)
    rw [resultPayload, presence, optionalBytes_eq 4, optionalBytes_eq 1]
    cases origin : r.origin <;> cases status : r.status <;> rfl
  case sent =>
    intro older newer r queue others sent
    rw [State.sentFrame_of_no_event noEvent, queue,
      find?_of_first (fun k hk => decide_eq_false (others k hk)) (decide_eq_true sent)]
    rfl
  case none =>
    intro others
    rw [State.sentFrame_of_no_event noEvent, List.find?_eq_none.mpr fun k hk => by simp [others k hk]]
    rfl

end Sys2Proof.Machine
end
section
/-! Chapter 9, HELLO (R164), the receiver (R158 to R160) and the frames that it takes whole. -/
namespace Sys2Proof.Machine

/-! ## HELLO (R164) -/

theorem le_one_toNat (b : Byte) : le 1 b.toNat = [b] := by
  rw [le_one]
  simp

/-- Settles O48. -/
theorem helloOpensSession : Obligations.HelloOpensSession := by
  intro tag window ackTimeout limit watchdog s executes windowLeast windowMost timeout limitLeast limitMost a v
  let payload := [window, ackTimeout, limit, watchdog]
  have windowByte : u8 payload 0 = window.toNat := rfl
  have timeoutByte : u8 payload 1 = ackTimeout.toNat := rfl
  have limitByte : u8 payload 2 = limit.toNat := rfl
  have passes : firstFailure (helloChecks payload) = none := by
    have positive : 1 ≤ ackTimeout.toNat := Nat.one_le_iff_ne_zero.mpr (Byte.toNat_ne_zero timeout)
    simp [firstFailure, helloChecks, exactLength, lengthCheck, rangeCheck, within, windowByte, timeoutByte, limitByte,
      windowLeast, windowMost, positive, limitLeast, limitMost, payload]
  have period : (if watchdog.toNat = 0 then (none : Option Nat) else some (watchdog.toNat * 100 * ticksPerMs)) =
      if watchdog = 0 then none else some (watchdog.toNat * 100 * ticksPerMs) :=
    if_congr ⟨fun h => BitVec.eq_of_toNat_eq h, fun h => congrArg BitVec.toNat h⟩ rfl rfl
  have opened : a.openSession payload = v := by
    have session : openedSession payload = v.link.session := by
      simp only [v, ← period]
      rfl
    simp only [State.openSession, State.modSession, session]
    rfl
  have reply : identityBytes ++ sessionParamBytes (a.openSession payload).link.session =
      [0xB5, 0x08, 0x2E, 0x02, 0x08, window, ackTimeout, limit, watchdog] := by
    rw [opened]
    simp only [sessionParamBytes, v, le_one_toNat]
    rfl
  have carriedOut := exec_of_passes (c := .hello tag payload) (t := a.openSession payload) rfl executes rfl passes
  rw [reply, opened] at carriedOut
  exact carriedOut

/-! ## One received byte (R158, R159) -/

section
variable {rx : Receiver} {b : Byte}

theorem Receiver.takeByte_of_sync (state : rx.state = .hunt) :
    rx.takeByte 0xC5 true =
      .onward { state := .length, len := 0, body := [], check := [], gap := some (5 * ticksPerMs) } := by
  simp only [Receiver.takeByte, state]
  rfl

theorem Receiver.takeByte_of_noise {ok : Bool} (state : rx.state = .hunt) (other : ok = false ∨ b ≠ 0xC5) :
    rx.takeByte b ok = .onward .hunting := by
  have noSync : ¬(ok && decide (b = syncByte)) = true := by
    rw [Bool.and_eq_true, decide_eq_true_eq]
    rintro ⟨good, sync⟩
    rcases other with bad | differ
    · exact absurd (good.symm.trans bad) (by decide)
    · exact differ sync
  simp only [Receiver.takeByte, state, Receiver.hunt, if_neg noSync]

theorem Receiver.takeByte_of_framingError (state : rx.state ≠ .hunt) : rx.takeByte b false = .discard := by
  cases h : rx.state with
  | hunt => exact absurd h state
  | length | body | check => simp only [Receiver.takeByte, h, Bool.false_eq_true, if_false]

theorem Receiver.takeByte_of_length (state : rx.state = .length) (least : 2 ≤ b.toNat) (most : b.toNat ≤ 240) :
    rx.takeByte b true = .onward { rx with state := .body, len := b.toNat, gap := some (5 * ticksPerMs) } := by
  simp only [Receiver.takeByte, state, if_true]
  exact if_pos ⟨least, most⟩

theorem Receiver.takeByte_of_badLength (state : rx.state = .length) (bad : b.toNat < 2 ∨ 240 < b.toNat) :
    rx.takeByte b true = .discard := by
  simp only [Receiver.takeByte, state, if_true]
  exact if_neg fun ⟨least, most⟩ => by omega

theorem Receiver.takeByte_of_body (state : rx.state = .body) :
    rx.takeByte b true =
      .onward { rx with
        body := rx.body ++ [b], state := if rx.body.length + 1 = rx.len then .check else .body
        gap := some (5 * ticksPerMs) } := by
  simp only [Receiver.takeByte, state, if_true, Receiver.takeBody, List.length_append, List.length_singleton, gapTicks]

theorem Receiver.takeByte_of_firstCheck (state : rx.state = .check) (none : rx.check = []) :
    rx.takeByte b true = .onward { rx with check := [b], gap := some (5 * ticksPerMs) } := by
  simp only [Receiver.takeByte, state, if_true, Receiver.takeCheck, none]
  rfl

/-- The second check byte ends the frame: the body is valid where the bytes match the frame check over LEN and body. -/
theorem Receiver.takeByte_of_lastCheck {hi : Byte} (state : rx.state = .check) (first : rx.check = [hi]) :
    rx.takeByte b true =
      if hi ++ b = frameCheck (BitVec.ofNat 8 rx.len :: rx.body) then .valid rx.body else .discard := by
  have two : ¬(rx.check ++ [b]).length < 2 := by simp [first]
  have matched : ({ rx with state := .check, check := rx.check ++ [b], gap := some gapTicks } : Receiver).checkMatches =
      decide (hi ++ b = frameCheck (BitVec.ofNat 8 rx.len :: rx.body)) := by
    simp only [Receiver.checkMatches, first, List.singleton_append]
    rfl
  simp only [Receiver.takeByte, state, if_true, Receiver.takeCheck, if_neg two, matched, decide_eq_true_eq]

end

theorem exec_byteReceived (b : Byte) (ok : Bool) (s : State) :
    exec (.byteReceived b ok) s = .next (s.receiveByte b ok).arbitrate := rfl

theorem State.receiveByte_of_onward {s : State} {b : Byte} {ok : Bool} {rx : Receiver}
    (h : s.link.rx.takeByte b ok = .onward rx) : s.receiveByte b ok = { s with link := { s.link with rx := rx } } := by
  simp only [State.receiveByte, h, State.modLink]

theorem State.receiveByte_of_discard {s : State} {b : Byte} {ok : Bool} (h : s.link.rx.takeByte b ok = .discard) :
    s.receiveByte b ok = s.modLink Link.discardFrame := by
  simp only [State.receiveByte, h]

theorem State.receiveByte_of_valid {s : State} {b : Byte} {ok : Bool} {body : List Byte}
    (h : s.link.rx.takeByte b ok = .valid body) : s.receiveByte b ok = s.takeFrame body := by
  simp only [State.receiveByte, h]

theorem exec_gapTimerExpiry_of_stopped {s : State} (h : s.link.rx.state = .hunt ∨ s.link.rx.gap = none) :
    exec .gapTimerExpiry s = .next s := by
  change execGapTimerExpiry s = _
  cases state : s.link.rx.state with
  | hunt => simp only [execGapTimerExpiry, state]
  | length | body | check =>
    simp only [execGapTimerExpiry, state, h.resolve_left (by simp [state])]

theorem exec_gapTimerExpiry_of_running {s : State} {left : Nat} (state : s.link.rx.state ≠ .hunt)
    (gap : s.link.rx.gap = some left) :
    exec .gapTimerExpiry s = .next ((s.elapse left).modLink Link.discardFrame) := by
  change execGapTimerExpiry s = _
  cases h : s.link.rx.state with
  | hunt => exact absurd h state
  | length | body | check => simp only [execGapTimerExpiry, h, gap]

/-- Settles O58. -/
theorem receiverSteps : Obligations.ReceiverSteps := by
  intro b ok s rx takes thrown discards
  have onward {rx' : Receiver} (h : rx.takeByte b ok = .onward rx') : takes rx' := by
    change exec (.byteReceived b ok) s = _
    rw [exec_byteReceived, State.receiveByte_of_onward h]
  have discard (h : rx.takeByte b ok = .discard) : discards := by
    change exec (.byteReceived b ok) s = _
    rw [exec_byteReceived, State.receiveByte_of_discard h]
    rfl
  refine ⟨fun state good sync => ?_, fun state other => onward (Receiver.takeByte_of_noise state other),
    fun state bad => ?_, fun state good least most => ?_, fun state good bad => ?_, fun state good more => ?_,
    fun state good last => ?_, fun state good none => ?_, fun hi state good first => ⟨fun bad => ?_, fun whole => ?_⟩,
    exec_gapTimerExpiry_of_stopped, fun left state gap => exec_gapTimerExpiry_of_running state gap, rfl⟩
  · subst good sync
    exact onward (Receiver.takeByte_of_sync state)
  · subst bad
    exact discard (Receiver.takeByte_of_framingError state)
  · subst good
    exact onward (Receiver.takeByte_of_length state least most)
  · subst good
    exact discard (Receiver.takeByte_of_badLength state bad)
  · subst good
    have step := Receiver.takeByte_of_body (b := b) state
    rw [if_neg more, ← state] at step
    exact onward step
  · subst good
    have step := Receiver.takeByte_of_body (b := b) state
    rw [if_pos last] at step
    exact onward step
  · subst good
    exact onward (Receiver.takeByte_of_firstCheck state none)
  · subst good
    exact discard ((Receiver.takeByte_of_lastCheck state first).trans (if_neg bad))
  · subst good
    rw [exec_byteReceived,
      State.receiveByte_of_valid ((Receiver.takeByte_of_lastCheck state first).trans (if_pos whole))]

/-! ## A whole frame (R158 to R160, R177) -/

/-- The state with another receiver. -/
def State.withRx (s : State) (rx : Receiver) : State := { s with link := { s.link with rx := rx } }

/-- The arbiter does not look at the receiver. -/
theorem State.arbitrate_withRx (s : State) (rx : Receiver) : (s.withRx rx).arbitrate = s.arbitrate.withRx rx := by
  cases line : s.link.line with
  | some f => rw [State.arbitrate_of_busy line, State.arbitrate_of_busy (s := s.withRx rx) line]
  | none =>
    cases replies : s.link.replies with
    | cons body rest =>
      rw [State.arbitrate_of_reply line replies, State.arbitrate_of_reply (s := s.withRx rx) line replies]
      rfl
    | nil =>
      cases retransmit : s.link.session.retransmit with
      | cons seq rest =>
        rw [State.arbitrate_of_retransmit line replies retransmit,
          State.arbitrate_of_retransmit (s := s.withRx rx) line replies retransmit]
        cases frame : s.sentFrame seq with
        | some f =>
          rw [State.retransmitHead_of_frame rest frame, State.retransmitHead_of_frame (s := s.withRx rx) rest frame]
          rfl
        | none =>
          have here : (s.modSession fun v => { v with retransmit := rest }).sentFrame seq = Option.none := frame
          have there : ((s.withRx rx).modSession fun v => { v with retransmit := rest }).sentFrame seq = Option.none :=
            frame
          simp only [State.retransmitHead, here, there]
          rfl
      | nil =>
        rw [State.arbitrate_of_reports line replies retransmit,
          State.arbitrate_of_reports (s := s.withRx rx) line replies retransmit]
        have same : (s.withRx rx).windowOpen = s.windowOpen := rfl
        rw [same]
        split
        next =>
          change (s.withRx rx).startReport = s.startReport.withRx rx
          simp only [State.startReport, show (s.withRx rx).summary.events = s.summary.events from rfl,
            show (s.withRx rx).results.queue = s.results.queue from rfl,
            show (s.withRx rx).link.session = s.link.session from rfl]
          cases sendFirstEvent s.link.session.nextSeq s.summary.events with
          | some found => rfl
          | none =>
            cases sendFirstResult s.link.session.nextSeq s.results.queue with
            | some found => rfl
            | none => rfl
        next => rfl

theorem State.arbitrate_withRx_of_quiet {s : State} (quiet : s.arbitrate = s) (rx : Receiver) :
    (s.withRx rx).arbitrate = s.withRx rx := by
  rw [State.arbitrate_withRx, quiet]

/-- The bytes of a frame taken after others. -/
theorem State.receiveBytes_cons {s t : State} {b : Byte} (h : exec (.byteReceived b true) s = .next t)
    (bytes : List Byte) : s.receiveBytes (b :: bytes) = t.receiveBytes bytes := by
  simp only [State.receiveBytes, List.foldl_cons, h]

/-- A byte that takes the receiver onward, with nothing for the arbiter to send. -/
theorem State.receiveBytes_of_onward {s : State} (quiet : s.arbitrate = s) {rx rx' : Receiver} {b : Byte}
    (h : rx.takeByte b true = .onward rx') (bytes : List Byte) :
    (s.withRx rx).receiveBytes (b :: bytes) = (s.withRx rx').receiveBytes bytes := by
  refine State.receiveBytes_cons ?_ bytes
  rw [exec_byteReceived, State.receiveByte_of_onward (s := s.withRx rx) h]
  exact congrArg Host.Outcome.next (State.arbitrate_withRx_of_quiet quiet rx')

/-- The receiver in BODY or CHECK with part of a body of `len` bytes taken. -/
def Receiver.inFrame (len : Nat) (taken : List Byte) : Receiver :=
  { state := if taken.length = len then .check else .body, len := len, body := taken, check := []
    gap := some (5 * ticksPerMs) }

/-- The body's bytes are taken one after another. -/
theorem State.receiveBytes_body {s : State} (quiet : s.arbitrate = s) (taken rest bytes : List Byte) {len : Nat}
    (length : taken.length + rest.length = len) :
    (s.withRx (Receiver.inFrame len taken)).receiveBytes (rest ++ bytes) =
      (s.withRx (Receiver.inFrame len (taken ++ rest))).receiveBytes bytes := by
  induction rest generalizing taken with
  | nil => rw [List.append_nil, List.nil_append]
  | cons b rest ih =>
    rw [List.length_cons] at length
    have state : (Receiver.inFrame len taken).state = .body := if_neg (by omega)
    have step : (Receiver.inFrame len taken).takeByte b true = .onward (Receiver.inFrame len (taken ++ [b])) := by
      rw [Receiver.takeByte_of_body state, Receiver.inFrame, Receiver.inFrame, List.length_append]
      rfl
    rw [List.cons_append, State.receiveBytes_of_onward quiet step,
      ih (taken ++ [b]) (by rw [List.length_append, List.length_singleton]; omega), List.append_assoc,
      List.singleton_append]

/-- A frame with a KIND is taken alike whatever the receiver holds, since its arrival sets the receiver to HUNT. -/
theorem State.takeFrame_withRx (s : State) (rx : Receiver) {body : List Byte} (length : 2 ≤ body.length) :
    (s.withRx rx).takeFrame body = s.takeFrame body := by
  match body, length with
  | kind :: second :: payload, _ => rfl

theorem checkBytes_join (w : Word16) : (w.extractLsb' 8 8 : Byte) ++ (w.extractLsb' 0 8 : Byte) = w := by
  apply BitVec.eq_of_toNat_eq
  have bound := w.isLt
  rw [toNat_append_bytes]
  simp only [BitVec.extractLsb'_toNat, Nat.shiftRight_eq_div_pow]
  omega

theorem State.receiveBytes_frame {s : State} (quiet : s.arbitrate = s) {body : List Byte} (least : 2 ≤ body.length)
    (most : body.length ≤ 240) (hunt : s.link.rx.state = .hunt) :
    s.receiveBytes (frameBytes body) = .next (s.takeFrame body).arbitrate := by
  have lenByte : (BitVec.ofNat 8 body.length).toNat = body.length := toNat_ofNat_of_lt (by omega)
  let started : Receiver := { state := .length, len := 0, body := [], check := [], gap := some (5 * ticksPerMs) }
  let check := frameCheck (coveredBytes body)
  let whole := Receiver.inFrame body.length body
  let hi : Byte := check.extractLsb' 8 8
  let lo : Byte := check.extractLsb' 0 8
  have self : s.withRx s.link.rx = s := rfl
  have inCheck : whole.state = .check := if_pos rfl
  have sized : started.takeByte (BitVec.ofNat 8 body.length) true = .onward (Receiver.inFrame body.length []) := by
    have small : ¬([] : List Byte).length = body.length := by rw [List.length_nil]; omega
    rw [Receiver.takeByte_of_length (rx := started) rfl (by omega) (by omega), lenByte, Receiver.inFrame, if_neg small]
  have first : whole.takeByte hi true = .onward { whole with check := [hi], gap := some (5 * ticksPerMs) } :=
    Receiver.takeByte_of_firstCheck inCheck rfl
  have last : ({ whole with check := [hi], gap := some (5 * ticksPerMs) } : Receiver).takeByte lo true =
      .valid body := by
    exact (Receiver.takeByte_of_lastCheck (rx := { whole with check := [hi], gap := some (5 * ticksPerMs) }) inCheck
      rfl).trans (if_pos (checkBytes_join check))
  have bytes : frameBytes body = 0xC5 :: BitVec.ofNat 8 body.length :: (body ++ [hi, lo]) := rfl
  calc s.receiveBytes (frameBytes body)
      = (s.withRx started).receiveBytes (BitVec.ofNat 8 body.length :: (body ++ [hi, lo])) := by
        rw [bytes, ← State.receiveBytes_of_onward quiet (Receiver.takeByte_of_sync hunt), self]
    _ = (s.withRx (Receiver.inFrame body.length [])).receiveBytes (body ++ [hi, lo]) :=
        State.receiveBytes_of_onward quiet sized _
    _ = (s.withRx whole).receiveBytes [hi, lo] :=
        State.receiveBytes_body quiet [] body [hi, lo] (Nat.zero_add _)
    _ = (s.withRx { whole with check := [hi], gap := some (5 * ticksPerMs) }).receiveBytes [lo] :=
        State.receiveBytes_of_onward quiet first _
    _ = .next (s.takeFrame body).arbitrate := by
        have taken : exec (.byteReceived lo true) (s.withRx { whole with check := [hi], gap := some (5 * ticksPerMs) }) =
            .next (s.takeFrame body).arbitrate := by
          rw [exec_byteReceived, State.receiveByte_of_valid (by exact last), State.takeFrame_withRx s _ least]
        rw [State.receiveBytes_cons taken]
        rfl

/-! ## The command of a KIND (10.3) -/

/-- A request's command is the request of its KIND. -/
theorem exec_of_requestCommand {kind tag : Byte} {payload : List Byte} {c : Instr}
    (h : requestCommand kind tag payload = some c) (s : State) : exec c s = s.request kind tag payload := by
  have code : kind = BitVec.ofNat 8 kind.toNat := by simp
  unfold requestCommand at h
  split at h
  case h_25 => cases h
  all_goals
    next known =>
      obtain rfl := Option.some.inj h
      rw [code, known]
      rfl

theorem kind_ne_ack_of_requestCommand {kind tag : Byte} {payload : List Byte} {c : Instr}
    (h : requestCommand kind tag payload = some c) : kind ≠ ackKind := by
  rintro rfl
  cases h

/-- Settles O59. -/
theorem framesAreReceivedWhole : Obligations.FramesAreReceivedWhole := by
  intro body s least most hunt quiet
  have received := State.receiveBytes_frame quiet least most hunt
  refine ⟨received, fun kind tag payload c frame command => ?_, fun kind tag payload frame other unknown => ?_,
    fun seq payload frame => ?_⟩
  · rw [received, exec_of_requestCommand command, frame, State.takeFrame, if_neg (kind_ne_ack_of_requestCommand command)]
    rfl
  · rw [received, frame]
    rfl
  · rw [received, frame]
    rfl

end Sys2Proof.Machine
end
section
/-! Chapter 9, the link's own events (R161, R166, R169, R171) and the ACK (R170). -/
namespace Sys2Proof.Machine

/-! ## The order of SENT numbers (R171) -/

theorem insertNumber_perm (next seq : Byte) (numbers : List Byte) :
    (insertNumber next seq numbers).Perm (seq :: numbers) := by
  induction numbers with
  | nil => exact .refl _
  | cons q rest ih =>
    rw [insertNumber]
    split
    · exact .refl _
    · exact (ih.cons q).trans (List.Perm.swap seq q rest)

/-- Older numbers first. -/
def inOrder (next : Byte) (numbers : List Byte) : Prop :=
  numbers.Pairwise fun older newer => numbersAfter next newer ≤ numbersAfter next older

theorem insertNumber_inOrder {next : Byte} (seq : Byte) {numbers : List Byte} (h : inOrder next numbers) :
    inOrder next (insertNumber next seq numbers) := by
  induction numbers with
  | nil => exact List.pairwise_singleton _ _
  | cons q rest ih =>
    obtain ⟨first, sorted⟩ := List.pairwise_cons.mp h
    rw [insertNumber]
    split
    next older =>
      refine List.pairwise_cons.mpr ⟨fun k hk => ?_, h⟩
      rcases List.mem_cons.mp hk with rfl | later
      · exact Nat.le_of_lt older
      · exact Nat.le_trans (first k later) (Nat.le_of_lt older)
    next newer =>
      refine List.pairwise_cons.mpr ⟨fun k hk => ?_, ih sorted⟩
      rcases List.mem_cons.mp ((insertNumber_perm next seq rest).mem_iff.mp hk) with rfl | there
      · exact Nat.not_lt.mp newer
      · exact first k there

theorem foldl_insertNumber (next : Byte) (numbers : List Byte) {sorted : List Byte} (h : inOrder next sorted) :
    (numbers.foldl (fun qs q => insertNumber next q qs) sorted).Perm (numbers ++ sorted) ∧
      inOrder next (numbers.foldl (fun qs q => insertNumber next q qs) sorted) := by
  induction numbers generalizing sorted with
  | nil => exact ⟨.refl _, h⟩
  | cons q numbers ih =>
    obtain ⟨perm, order⟩ := ih (insertNumber_inOrder q h)
    refine ⟨perm.trans ?_, order⟩
    exact ((insertNumber_perm next q sorted).append_left numbers).trans List.perm_middle

theorem State.sentInOrder_perm (s : State) : s.sentInOrder.Perm s.sentNumbers := by
  have sorted := (foldl_insertNumber s.link.session.nextSeq s.sentNumbers (sorted := []) List.Pairwise.nil).1
  rwa [List.append_nil] at sorted

theorem State.sentInOrder_inOrder (s : State) : inOrder s.link.session.nextSeq s.sentInOrder :=
  (foldl_insertNumber s.link.session.nextSeq s.sentNumbers (sorted := []) List.Pairwise.nil).2

/-! ## The end of a frame on the line (R161, R169) -/

theorem exec_frameSent_of_idle {s : State} (line : s.link.line = none) : exec .frameSent s = .next s := by
  change execFrameSent s = _
  simp only [execFrameSent, line]

theorem exec_frameSent_of_frame {s : State} {f : LineFrame} (line : s.link.line = some f) :
    exec .frameSent s = .next (s.frameLeaves f).arbitrate := by
  change execFrameSent s = _
  simp only [execFrameSent, line, State.answered]

/-- A frame that is not the reply to a RESET brings no reset (R173). -/
theorem Link.resetReplyOnLine_of_other {l : Link} {f : LineFrame} (line : l.line = some f)
    (other : l.resetPending = false ∨ f.report = true ∨
      ∀ body rest, l.replies = body :: rest → byteAt body 0 ≠ 0x80 ∨ byteAt body 2 ≠ 0x03) :
    ¬l.resetReplyOnLine = true := by
  unfold Link.resetReplyOnLine
  rw [Bool.and_eq_true, line]
  rintro ⟨pending, brings⟩
  cases replies : l.replies with
  | nil => simp [replies] at brings
  | cons body rest =>
    simp only [replies, Bool.and_eq_true, Bool.not_eq_true', isResetReply, decide_eq_true_eq] at brings
    obtain ⟨isReply, ok, reset⟩ := brings
    rcases other with h | h | h
    · exact absurd (pending.symm.trans h) (by decide)
    · exact absurd (isReply.symm.trans h) (by decide)
    · exact (h body rest replies).elim (fun no => no ok) fun no => no reset

theorem State.frameLeaves_of_reply {s : State} {f : LineFrame} (other : ¬s.link.resetReplyOnLine = true)
    (reply : f.report = false) :
    s.frameLeaves f = { s with link := { s.link with line := none, replies := s.link.replies.tail } } := by
  simp only [State.frameLeaves, if_neg other, reply, Bool.false_eq_true, if_false, State.modLink]

theorem State.ackTimerStart_eq (s : State) :
    s.ackTimerStart =
      if s.sentNumbers = [] then none else some (s.link.session.ackTimeout * 10 * ticksPerMs) :=
  if_congr List.isEmpty_iff rfl rfl

theorem State.frameLeaves_of_report {s : State} {f : LineFrame} (other : ¬s.link.resetReplyOnLine = true)
    (report : f.report = true) :
    s.frameLeaves f =
      { s with link := { s.link with
        line := none
        session := { s.link.session with
          ackTimer :=
            if s.sentNumbers = [] then none
            else some (s.link.session.ackTimeout * 10 * ticksPerMs) } } } := by
  simp only [State.frameLeaves, if_neg other, report, if_true, State.ackTimerStart_eq, State.modLink, State.modSession]

/-! ## The timers of the session (R165, R166, R171) -/

theorem exec_ackTimerExpiry_of_stopped {s : State}
    (h : s.link.session.state ≠ .opened ∨ s.link.session.ackTimer = none) : exec .ackTimerExpiry s = .next s := by
  change execAckTimerExpiry s = _
  cases state : s.link.session.state with
  | closed | lost => simp only [execAckTimerExpiry, state]
  | opened => simp only [execAckTimerExpiry, state, h.resolve_left (not_not.mpr state)]

theorem exec_ackTimerExpiry_of_running {s : State} {left : Nat} (state : s.link.session.state = .opened)
    (timer : s.link.session.ackTimer = some left) :
    exec .ackTimerExpiry s = .next (s.elapse left).ackTimeoutExpires.arbitrate := by
  change execAckTimerExpiry s = _
  simp only [execAckTimerExpiry, state, timer, State.answered]

theorem exec_linkWatchdogExpiry_of_stopped {s : State}
    (h : s.link.session.state ≠ .opened ∨ s.link.session.watchdog = none) :
    exec .linkWatchdogExpiry s = .next s := by
  change execLinkWatchdogExpiry s = _
  cases state : s.link.session.state with
  | closed | lost => simp only [execLinkWatchdogExpiry, state]
  | opened => simp only [execLinkWatchdogExpiry, state, h.resolve_left (not_not.mpr state)]

theorem exec_linkWatchdogExpiry_of_running {s : State} {left : Nat} (state : s.link.session.state = .opened)
    (timer : s.link.session.watchdog = some left) :
    exec .linkWatchdogExpiry s = .next (s.elapse left).enterLost.arbitrate := by
  change execLinkWatchdogExpiry s = _
  simp only [execLinkWatchdogExpiry, state, timer, State.answered]

/-- Settles O57. -/
theorem linkTimersAndFrameEnds : Obligations.LinkTimersAndFrameEnds := by
  refine ⟨fun s => exec_frameSent_of_idle, fun s f line other => ?frame, fun s => ?timers,
    fun s => ⟨s.sentInOrder_perm, s.sentInOrder_inOrder⟩⟩
  case frame =>
    have noReset := Link.resetReplyOnLine_of_other line other
    rw [exec_frameSent_of_frame line]
    exact ⟨fun reply => congrArg (Host.Outcome.next ∘ State.arbitrate) (State.frameLeaves_of_reply noReset reply),
      fun report => congrArg (Host.Outcome.next ∘ State.arbitrate) (State.frameLeaves_of_report noReset report)⟩
  case timers =>
    intro lost
    refine ⟨exec_ackTimerExpiry_of_stopped, exec_linkWatchdogExpiry_of_stopped, fun opened => ⟨fun left timer => ?ack,
      fun left timer => exec_linkWatchdogExpiry_of_running opened timer⟩⟩
    intro e
    rw [exec_ackTimerExpiry_of_running opened timer]
    exact ⟨fun more => congrArg (Host.Outcome.next ∘ State.arbitrate) (if_pos more),
      fun last => congrArg (Host.Outcome.next ∘ State.arbitrate) (if_neg (Nat.not_lt.mpr last))⟩

/-! ## ACK (R170) -/

theorem Session.frameArrives_eq (v : Session) :
    v.frameArrives =
      { v with
        watchdog :=
          if v.state ≠ .opened then v.watchdog
          else if v.watchdogPeriod = 0 then none
          else some (v.watchdogPeriod * 100 * ticksPerMs) } := by
  unfold Session.frameArrives
  by_cases state : v.state = .opened
  · rw [if_pos state, if_neg (not_not.mpr state)]
    rfl
  · rw [if_neg state, if_pos state]

theorem SendState.number_eq_some_iff (send : SendState) (seq : Byte) : send.number = some seq ↔ send = .sent seq := by
  cases send <;> simp [SendState.number]

theorem SendState.number_eq_none_iff (send : SendState) : send.number = none ↔ send = .waiting := by
  cases send <;> simp [SendState.number]

theorem State.mem_sentNumbers (s : State) (seq : Byte) :
    seq ∈ s.sentNumbers ↔
      (∃ r ∈ s.results.queue, r.send = .sent seq) ∨ ∃ e ∈ s.summary.events, e.send = .sent seq := by
  simp only [State.sentNumbers, List.mem_append, List.mem_filterMap, SendState.number_eq_some_iff]
  exact or_comm

theorem State.sentNumbers_eq_nil_iff (s : State) :
    s.sentNumbers = [] ↔
      ¬((∃ r ∈ s.results.queue, r.send ≠ .waiting) ∨ ∃ e ∈ s.summary.events, e.send ≠ .waiting) := by
  simp only [State.sentNumbers, List.append_eq_nil_iff, List.filterMap_eq_nil_iff, SendState.number_eq_none_iff, not_or,
    not_exists, not_and, not_not]
  exact and_comm

theorem Link.reportOnLine_iff (l : Link) : l.reportOnLine = true ↔ ∃ f, l.line = some f ∧ f.report = true := by
  unfold Link.reportOnLine
  cases l.line <;> simp

theorem exec_ack (seq : Byte) (payload : List Byte) (s : State) :
    exec (.ack seq payload) s = .next (s.takeAck seq payload).arbitrate := rfl

/-- Settles O54. -/
theorem ackRemovesReports : Obligations.AckRemovesReports := by
  intro seq s a next stays queue events someSent reportOnLine
  have session : a.link.session = s.link.session.frameArrives := rfl
  have named : seq ∈ a.sentNumbers ↔
      (∃ r ∈ s.results.queue, r.send = .sent seq) ∨ ∃ e ∈ s.summary.events, e.send = .sent seq :=
    State.mem_sentNumbers a seq
  have state : a.link.session.state = s.link.session.state := Session.frameArrives_state _
  refine ⟨fun payload wrong => ?wrong, fun ignored => ?ignored, fun opened sent => ?taken⟩
  case wrong =>
    rw [exec_ack, State.takeAck, if_pos wrong]
    rfl
  case ignored =>
    have notTaken : ¬(a.link.session.state = .opened ∧ seq ∈ a.sentNumbers) := by
      rw [state, named]
      rintro ⟨opened, sent⟩
      rcases ignored with closed | ⟨noResult, noEvent⟩
      · exact closed opened
      · rcases sent with ⟨r, member, h⟩ | ⟨e, member, h⟩
        · exact noResult r member h
        · exact noEvent e member h
    rw [exec_ack, State.takeAck, if_neg (not_not.mpr rfl), if_neg notTaken]
  case taken =>
    have taken : a.link.session.state = .opened ∧ seq ∈ a.sentNumbers := ⟨state.trans opened, named.mpr sent⟩
    have number : a.link.session.nextSeq = next := by rw [session, Session.frameArrives_eq]
    have timeout : a.link.session.ackTimeout = s.link.session.ackTimeout := by rw [session, Session.frameArrives_eq]
    have list : a.link.session.retransmit = s.link.session.retransmit := by rw [session, Session.frameArrives_eq]
    have survives : survivesAck a.link.session.nextSeq seq = stays := by
      funext send
      rw [number]
      cases send <;> rfl
    let left : State :=
      { a with results := { s.results with queue := queue }, summary := { s.summary with events := events } }
    have acknowledged : a.acknowledge seq =
        { left with link := { a.link with session := { a.link.session with
            retryCount := 0
            retransmit := s.link.session.retransmit.filter fun q =>
              decide ((next - 1 - q).toNat < (next - 1 - seq).toNat)
            ackTimer := if a.link.reportOnLine then none else left.ackTimerStart } } } := by
      rw [State.acknowledge, survives, number]
      simp only [State.modSession, State.modLink, list]
      rfl
    have sentLeft : left.sentNumbers = [] ↔ ¬someSent := State.sentNumbers_eq_nil_iff left
    have onLine : a.link.reportOnLine = true ↔ reportOnLine := Link.reportOnLine_iff a.link
    refine ⟨if a.link.reportOnLine then none else left.ackTimerStart, ?_, fun stops => ?_, fun free some => ?_⟩
    · rw [exec_ack, State.takeAck, if_neg (not_not.mpr rfl), if_pos taken, acknowledged]
    · rcases stops with busy | noneSent
      · rw [if_pos (onLine.mpr busy)]
      · rw [State.ackTimerStart_eq, if_pos (sentLeft.mpr noneSent), ite_self]
    · have remains : ¬left.sentNumbers = [] := fun h => sentLeft.mp h some
      rw [if_neg (mt onLine.mp free), State.ackTimerStart_eq, if_neg remains]
      exact congrArg (fun t => Option.some (t * 10 * ticksPerMs)) timeout

end Sys2Proof.Machine
end
section
/-! Chapter 9, how a request is answered, repeated, held or dropped (R160 to R162, R173, R174, R181). -/
namespace Sys2Proof.Machine

/-! ## A refused request changes nothing (R181) -/

theorem validated_refused {checks : List Check} {s : State} {c : State × List Byte} {reason : Reason} {detail : Byte}
    (h : (validated checks s c).2 = .refused reason detail) : (validated checks s c).1 = s := by
  cases failure : firstFailure checks with
  | none =>
    rw [validated_of_passes s c failure] at h
    cases h
  | some a => rw [validated_of_fails s c failure]

/-- Every KIND's handler checks the request and then carries it out; any other KIND is refused. -/
theorem answerRequest_validated (kind tag : Byte) (payload : List Byte) (s : State) :
    (∃ (checks : List Check) (c : State × List Byte), answerRequest kind tag payload s = validated checks s c) ∨
      answerRequest kind tag payload s = (s, .refused .unknownKind 0) := by
  unfold answerRequest
  split
  case h_25 => exact .inr rfl
  all_goals exact .inl ⟨_, _, rfl⟩

theorem answerRequest_refused {kind tag : Byte} {payload : List Byte} {s : State} {reason : Reason} {detail : Byte}
    (h : (answerRequest kind tag payload s).2 = .refused reason detail) :
    (answerRequest kind tag payload s).1 = s := by
  rcases answerRequest_validated kind tag payload s with ⟨checks, c, answer⟩ | unknown
  · rw [answer] at h ⊢
    exact validated_refused h
  · rw [unknown]

/-! ## The reply (R161, R162) -/

theorem State.reply_eq (s : State) (kind tag : Byte) (answer : Answer) (room : s.link.cache.length ≤ 4) :
    s.reply kind tag answer =
      { s with
        link := { s.link with
          replies := s.link.replies ++ [replyBody kind tag answer]
          cache :=
          if tag = 0 then s.link.cache
          else
            (if s.link.cache.length = 4 then s.link.cache.tail else s.link.cache) ++
              [({ tag := tag, kind := kind, body := replyBody kind tag answer } : CacheEntry)] } } := by
  have trimmed (e : CacheEntry) : trimCache (s.link.cache ++ [e]) =
      (if s.link.cache.length = 4 then s.link.cache.tail else s.link.cache) ++ [e] := by
    rw [trimCache_eq, List.length_append, List.length_singleton]
    by_cases full : s.link.cache.length = 4
    · rw [if_pos (by omega), if_pos full]
      cases cache : s.link.cache with
      | nil => simp [cache] at full
      | cons c rest => rfl
    · rw [if_neg (by omega), if_neg full]
  by_cases zero : tag = 0
  · simp only [State.reply, State.modLink, Link.cacheReply, if_pos zero]
    rfl
  · simp only [State.reply, State.modLink, Link.cacheReply, if_neg zero]
    rw [← trimmed]
    rfl

/-- Settles O49. -/
theorem requestsAreAnswered : Obligations.RequestsAreAnswered := by
  refine ⟨fun s => ?arrives, fun kind tag answer s room => ?reply,
    fun kind tag payload s reason detail => answerRequest_refused, fun tag s executes => ?reset⟩
  case arrives =>
    intro v
    rw [State.frameArrives_eq, Session.frameArrives_eq]
    rfl
  case reply =>
    intro body
    have same : replyBody kind tag answer = body := by cases answer <;> rfl
    rw [State.reply_eq s kind tag answer room, same]
  case reset =>
    exact exec_of_passes (c := .reset tag []) (checks := [exactLength 0 []]) rfl executes rfl rfl

/-! ## Requests that are not executed (R161, R162, R174) -/

/-- A command that is a request frame: one of a known KIND, or UNKNOWN_KIND with any KIND but that of ACK. -/
theorem exec_of_requestFrame {kind tag : Byte} {payload : List Byte} {c : Instr}
    (h : requestCommand kind tag payload = some c ∨
      (requestCommand kind tag payload = none ∧ kind ≠ 0x70 ∧ c = .unknownKind kind tag payload)) (s : State) :
    exec c s = .next (s.takeRequest kind tag payload).arbitrate := by
  rcases h with known | ⟨_, notAck, rfl⟩
  · exact exec_of_requestCommand known s
  · have frame : s.takeFrame (kind :: tag :: payload) = s.takeRequest kind tag payload := if_neg notAck
    exact congrArg (Host.Outcome.next ∘ State.arbitrate) frame

section
variable {s : State} {kind tag : Byte} {payload : List Byte}

theorem State.takeRequest_of_pending (pending : s.link.resetPending = true) :
    s.takeRequest kind tag payload =
      s.frameArrives.modLink (Link.holdFrame { kind := kind, tag := tag, payload := payload }) := if_pos pending

theorem State.takeRequest_of_ready (ready : s.link.resetPending = false) :
    s.takeRequest kind tag payload = s.frameArrives.execute kind tag payload := by
  have notPending : ¬s.frameArrives.link.resetPending = true := by
    rw [show s.frameArrives.link.resetPending = false from ready]
    decide
  exact if_neg notPending

theorem Link.holdFrame_of_room {l : Link} {f : HeldFrame} (room : l.hold.length < 4) :
    l.holdFrame f = { l with hold := l.hold ++ [f] } := if_pos room

theorem Link.holdFrame_of_full {l : Link} {f : HeldFrame} (full : 4 ≤ l.hold.length) :
    l.holdFrame f = l.countDiscard := if_neg (Nat.not_lt.mpr full)

/-- The first entry of the tag and KIND is the cached reply (R162). -/
theorem Link.cached_of_first {l : Link} {before after : List CacheEntry} {body : List Byte} (tagged : tag ≠ 0)
    (cache : l.cache = before ++ { tag := tag, kind := kind, body := body } :: after)
    (first : ∀ d ∈ before, ¬(d.tag = tag ∧ d.kind = kind)) : l.cached kind tag = some body := by
  have found := find?_of_first (p := fun c : CacheEntry => decide (c.tag = tag) && decide (c.kind = kind))
    (older := before) (newer := after) (a := { tag := tag, kind := kind, body := body })
    (fun d hd => by simpa using first d hd) (by simp)
  rw [Link.cached, if_neg tagged, cache, found]
  rfl

theorem State.execute_of_cached {body : List Byte} (cached : s.link.cached kind tag = some body)
    (room : s.link.replies.length < 4) : s.execute kind tag payload = s.modLink (Link.queueReply body) := by
  simp only [State.execute, cached]
  exact if_pos room

/-- Without a reply place a request is dropped and counted, cached or not. -/
theorem State.execute_of_full (full : 4 ≤ s.link.replies.length) :
    s.execute kind tag payload = s.modLink Link.countDiscard := by
  have noPlace : ¬s.link.replies.length < replyPlaces := Nat.not_lt.mpr full
  cases cached : s.link.cached kind tag with
  | some body => simp only [State.execute, cached, if_neg noPlace]
  | none => simp only [State.execute, cached, if_neg noPlace]

end

/-- Settles O50. -/
theorem repeatedHeldOrDropped : Obligations.RepeatedHeldOrDropped := by
  refine ⟨fun f rest s => ⟨rfl, fun pending => if_pos pending, fun ready => if_neg (by simp [ready])⟩,
    fun kind tag payload c s known ready => ?execution, fun kind tag payload c s frame => ?dropped⟩
  case execution => rw [exec_of_requestFrame (.inl known) s, State.takeRequest_of_ready ready]
  case dropped =>
    intro a counted
    rw [exec_of_requestFrame frame s]
    have dropped (ready : s.link.resetPending = false) (full : 4 ≤ s.link.replies.length) :
        s.takeRequest kind tag payload = counted := by
      rw [State.takeRequest_of_ready ready, State.execute_of_full (s := s.frameArrives) full]
      rfl
    refine ⟨fun pending room => ?_, fun pending full => ?_, fun before after body ready tagged cache first =>
      ⟨fun room => ?_, fun full => by rw [dropped ready full]⟩, fun ready full _ => by rw [dropped ready full]⟩
    · rw [State.takeRequest_of_pending pending, State.modLink, Link.holdFrame_of_room (by exact room)]
      rfl
    · rw [State.takeRequest_of_pending pending, State.modLink, Link.holdFrame_of_full (by exact full)]
      rfl
    · have cached : s.frameArrives.link.cached kind tag = some body := Link.cached_of_first tagged cache first
      rw [State.takeRequest_of_ready ready, State.execute_of_cached cached room]
      rfl

end Sys2Proof.Machine
end
section
/-! Chapters 9 and 10, what the reads and STATUS report (R37, R67, R102, R134, R148, R172). -/
namespace Sys2Proof.Machine

/-! ## Shared fields -/

/-- What is left of a timer, a stopped one counting 0, in whole units rounded up. -/
theorem timeLeft_eq {unit : Nat} (positive : 0 < unit) (timer : Option Nat) :
    timeLeft unit timer = (timer.getD 0 + (unit - 1)) / unit := by
  cases timer with
  | none =>
    rw [Option.getD_none, Nat.zero_add]
    exact (Nat.div_eq_of_lt (by omega)).symm
  | some left =>
    rw [Option.getD_some, ← Nat.add_sub_assoc positive]
    rfl

theorem flagSet_lt (u : Summary) (source : SourceId) : u.flagSet source < 2 ^ (if source = 8 then 4 else 11) :=
  maskOf_lt _ _

/-- The bits of a source's own flags in its set. -/
theorem testBit_flagSet_iff (u : Summary) {source : SourceId} {f : FlagId}
    (own : f.val < (if source = 8 then 4 else 11)) :
    (u.flagSet source).testBit f.val = true ↔ u.flags[source][f] ≠ none := by
  rw [testBit_flagSet]
  constructor
  · rintro ⟨_, g, t, same, set⟩
    obtain rfl : g = f := Fin.ext same
    exact Option.ne_none_iff_exists'.mpr ⟨t, set⟩
  · intro set
    obtain ⟨t, ht⟩ := Option.ne_none_iff_exists'.mp set
    exact ⟨own, f, t, rfl, ht⟩

/-! ## The reads -/

/-- The description of a slot that holds an entry (10.3). -/
theorem descriptionBytes_some (d : SurveyEntry) :
    descriptionBytes (some d) =
      [1] ++ le 1 d.port.val ++ le 1 (quantityCode d.quantity) ++ le 1 d.e ++ le 1 d.shift ++
        le 2 d.gateTimeout ++ [if d.reported then 0 else 1, if d.enabled then 1 else 0] := by
  cases reported : d.reported <;> simp [descriptionBytes, flagByte, reported]

theorem slotRangeChecks_pass {payload : List Byte} (first : u8 payload 0 < 48) (least : 1 ≤ u8 payload 1)
    (most : u8 payload 1 ≤ 16) (fits : u8 payload 0 + u8 payload 1 ≤ 48) :
    ∀ c ∈ slotRangeChecks payload, c.passes = true := by
  simp [slotRangeChecks, rangeCheck, within, first, least, most, fits]

theorem lastFireBytes_eq (t : Option Word32) :
    lastFireBytes t = flagByte t.isSome :: le 4 (t.getD 0).toNat := by
  cases t <;> rfl

/-- Settles O52. -/
theorem readsReport : Obligations.ReadsReport := by
  intro tag s a
  refine ⟨fun p executes => ?port, fun first count executes firstOk least most fits => ?survey,
    fun m executes => ?monitor, fun i executes => ?reaction, fun lo hi executes small => ?summary⟩
  case port =>
    intro q r
    have named : portAt [portByte p] 0 = p := portAt_of_byteAt rfl
    have answer := exec_of_passes (c := .portGet tag [portByte p]) rfl executes rfl (portRequest_passes p)
    rw [named, condBytes, timeLeft_eq (by decide)] at answer
    simp only [paramBytes, List.append_assoc, List.cons_append, List.nil_append] at answer ⊢
    exact answer
  case survey =>
    let slot := fun k => s.survey.slots[Fin.ofNat 48 (first.toNat + k)]
    let descriptions := (List.range count.toNat).map fun k => descriptionBytes (slot k)
    have passes : firstFailure (exactLength 2 [first, count] :: slotRangeChecks [first, count]) = none := by
      rw [firstFailure_eq_none_iff, List.forall_mem_cons]
      exact ⟨rfl, slotRangeChecks_pass firstOk least most fits⟩
    have answer := exec_of_passes (c := .surveyGet tag [first, count]) rfl executes rfl passes
    refine ⟨descriptions, by simp [descriptions], answer, fun k i hk hi => ?_⟩
    have index : Fin.ofNat 48 (first.toNat + k) = i :=
      Fin.ext ((Nat.mod_eq_of_lt (by omega)).trans hi.symm)
    have description : descriptions[k]? = some (descriptionBytes s.survey.slots[i]) := by
      simp only [descriptions, List.getElem?_map, List.getElem?_range hk, Option.map_some, slot, index]
    rw [description]
    refine ⟨fun empty => ?_, fun d entry => ?_⟩
    · rw [empty]
      rfl
    · rw [entry, descriptionBytes_some]
  case monitor =>
    intro n
    have index : u8 [BitVec.ofNat 8 m.val] 0 = m.val := toNat_ofNat_of_lt (by omega)
    have named : monitorAt [BitVec.ofNat 8 m.val] = m := by simp [monitorAt, index]
    have passes : firstFailure [exactLength 1 [BitVec.ofNat 8 m.val],
        rangeCheck (decide (u8 [BitVec.ofNat 8 m.val] 0 < 12)) 2] = none := by
      simp [firstFailure, exactLength, lengthCheck, rangeCheck, index]
    have answer := exec_of_passes (c := .monitorGet tag [BitVec.ofNat 8 m.val]) rfl executes rfl passes
    simp only [named, monitorBytes, List.append_assoc, List.cons_append, List.nil_append] at answer ⊢
    exact answer
  case reaction =>
    have index : u8 [BitVec.ofNat 8 i.val] 0 = i.val := toNat_ofNat_of_lt (by omega)
    have passes : firstFailure [exactLength 1 [BitVec.ofNat 8 i.val],
        rangeCheck (decide (u8 [BitVec.ofNat 8 i.val] 0 < 24)) 2] = none := by
      simp [firstFailure, exactLength, lengthCheck, rangeCheck, index]
    have answer := exec_of_passes (c := .reactionGet tag [BitVec.ofNat 8 i.val]) rfl executes rfl passes
    simp only [entryAt_of_index] at answer
    refine ⟨fun empty => ?_, fun e entry => ?_⟩
    · have none : a.reactions[i] = none := empty
      rw [none] at answer
      exact answer
    · have some : a.reactions[i] = some e := entry
      rw [some, reactionBytes, lastFireBytes_eq, timeLeft_eq (by decide)] at answer
      simp only [List.append_assoc, List.cons_append, List.nil_append] at answer ⊢
      exact answer
  case summary =>
    intro named few
    have set : u16 [lo, hi] 0 = lo.toNat + 256 * hi.toNat := rfl
    have passes : firstFailure [exactLength 2 [lo, hi], rangeCheck (decide (u16 [lo, hi] 0 < 512) &&
        decide ((namedSources (u16 [lo, hi] 0)).length ≤ 4)) 2] = none := by
      have known : lo.toNat + 256 * hi.toNat < 512 := by
        have low := lo.isLt
        omega
      have count : (namedSources (lo.toNat + 256 * hi.toNat)).length ≤ 4 := few
      simp [firstFailure, exactLength, lengthCheck, rangeCheck, set, known, count]
    exact ⟨s.summary.flagSet, exec_of_passes (c := .summaryGet tag [lo, hi]) rfl executes rfl passes,
      fun i f own => testBit_flagSet_iff s.summary own, flagSet_lt s.summary⟩

/-! ## The parts of STATUS (10.7) -/

/-- The parts of a list of parts are found one behind the other. -/
theorem drop_flatten {α : Type} (parts : List (List α)) (k : Nat) :
    parts.flatten.drop ((parts.map List.length).take k).sum = (parts.drop k).flatten := by
  induction parts generalizing k with
  | nil => simp
  | cons part parts ih =>
    cases k with
    | zero => rfl
    | succ k =>
      rw [List.map_cons, List.take_succ_cons, List.sum_cons, List.flatten_cons, List.drop_append, List.drop_succ_cons,
        ← ih k, List.drop_eq_nil_of_le (by omega), List.nil_append]
      congr 1
      omega

theorem take_drop_flatten {α : Type} (parts : List (List α)) {k : Nat} (hk : k < parts.length) :
    (parts.flatten.drop ((parts.map List.length).take k).sum).take parts[k].length = parts[k] := by
  rw [drop_flatten, List.drop_eq_getElem_cons hk, List.flatten_cons]
  exact List.take_left

/-- The STATUS payload part by part: the survey record and its STALL slot, the spot count and its head, and the result
unit and its monitors apart, and each port by itself. -/
def statusParts (s : State) : List (List Byte) :=
  [ le 4 s.timebase.toNat, activeBytes s.engine.active, parkedBytes s.engine.parked
  , [surveyStateCode s.survey.state, modeCode s.survey.mode, pacingCode s.survey.pacing, policyCode s.survey.policy] ++
      le 2 s.survey.interval ++ le 1 s.survey.cursor ++ [flagByte s.survey.inPass] ++
      le 2 s.survey.passNumber.toNat ++ [flagByte s.survey.tickPending] ++ le 1 s.survey.lost
  , (s.stallSlot.map fun slot => le 1 slot.val).getD [0xFF]
  , le 1 s.spots.length
  , (s.spots.head?.map fun r => [r.tag, flagByte (!s.results.hasFree)]).getD [0, 0]
  , le 1 (countWhere (·.send.isWaiting) s.results.queue) ++ le 1 (countWhere (!·.send.isWaiting) s.results.queue) ++
      le 1 s.results.reservations ++ le 1 (resultPlaces - s.results.used) ++ le 2 s.results.nextId.toNat ++
      [flagByte s.results.alert]
  , le 2 (maskOf 12 s.results.monitorOutside) ] ++
  (s.ports.toList.map fun r => switchBytes r.switch) ++ [summaryUnitBytes s.summary, s.linkBytes]

/-- The lengths of the parts. -/
def statusLengths : List Nat := [4, 9, 4, 12, 1, 1, 2, 7, 2, 9, 9, 9, 9, 9, 9, 9, 9, 6, 12]

theorem statusParts_lengths (s : State) : (statusParts s).map List.length = statusLengths := by
  have ports : (s.ports.toList.map fun r => switchBytes r.switch).map List.length = List.replicate 8 9 := by
    rw [List.map_map]
    refine List.eq_replicate_iff.mpr ⟨by simp, fun n hn => ?_⟩
    obtain ⟨r, _, rfl⟩ := List.mem_map.mp hn
    rfl
  have stall : ((s.stallSlot.map fun slot => le 1 slot.val).getD [0xFF]).length = 1 := by cases s.stallSlot <;> rfl
  have head : ((s.spots.head?.map fun r => [r.tag, flagByte (!s.results.hasFree)]).getD [0, 0]).length = 2 := by
    cases s.spots <;> rfl
  rw [statusParts, List.map_append, List.map_append, ports]
  simp only [List.map_cons, List.map_nil, activeBytes_length, parkedBytes_length, stall, head]
  rfl

theorem statusBytes_eq_flatten (s : State) : s.statusBytes = (statusParts s).flatten := by
  have spots : s.spotBytes =
      le 1 s.spots.length ++ (s.spots.head?.map fun r => [r.tag, flagByte (!s.results.hasFree)]).getD [0, 0] := by
    unfold State.spotBytes
    cases s.spots <;> rfl
  have stall : (match s.stallSlot with | none => ([0xFF] : List Byte) | some slot => le 1 slot.val) =
      (s.stallSlot.map fun slot => le 1 slot.val).getD [0xFF] := by
    cases s.stallSlot <;> rfl
  have survey : s.surveyBytes = [surveyStateCode s.survey.state, modeCode s.survey.mode, pacingCode s.survey.pacing,
      policyCode s.survey.policy] ++ le 2 s.survey.interval ++ le 1 s.survey.cursor ++ [flagByte s.survey.inPass] ++
      le 2 s.survey.passNumber.toNat ++ [flagByte s.survey.tickPending] ++ le 1 s.survey.lost ++
      (s.stallSlot.map fun slot => le 1 slot.val).getD [0xFF] := by
    rw [← stall]
    rfl
  rw [State.statusBytes, spots, survey, statusParts, resultUnitBytes]
  simp only [List.flatten_append, List.flatten_cons, List.flatten_nil, List.flatMap, List.append_assoc, List.append_nil,
    List.cons_append, List.nil_append]

theorem statusParts_length (s : State) : (statusParts s).length = 19 := by
  rw [← List.length_map (f := List.length), statusParts_lengths]
  rfl

/-- Each part of the payload stands behind those before it. -/
theorem status_part (s : State) {k : Nat} (hk : k < 19) :
    (s.statusBytes.drop (statusLengths.take k).sum).take (statusLengths.getD k 0) =
      (statusParts s)[k]'(by rw [statusParts_length]; exact hk) := by
  have index : k < (statusParts s).length := by
    rw [statusParts_length]
    exact hk
  have part := take_drop_flatten (statusParts s) index
  have length : statusLengths.getD k 0 = ((statusParts s)[k]'index).length := by
    rw [List.getD_eq_getElem _ _ hk]
    simp only [← statusParts_lengths s, List.getElem_map]
  rw [statusParts_lengths, ← length] at part
  rw [statusBytes_eq_flatten, part]

end Sys2Proof.Machine
end
section
/-! Chapter 10, STATUS: where each unit's record stands in its payload (R172). -/
namespace Sys2Proof.Machine

/-! ## The codes of STATUS -/

theorem SendState.isWaiting_eq_decide (send : SendState) : send.isWaiting = decide (send = .waiting) := by
  cases send <;> simp [SendState.isWaiting]

theorem countWhere_waiting {α : Type} (send : α → SendState) (xs : List α) :
    countWhere (fun x => (send x).isWaiting) xs = (xs.filter fun x => decide (send x = .waiting)).length := by
  simp only [countWhere, SendState.isWaiting_eq_decide]

theorem countWhere_sent {α : Type} (send : α → SendState) (xs : List α) :
    countWhere (fun x => !(send x).isWaiting) xs = (xs.filter fun x => decide (send x ≠ .waiting)).length := by
  simp only [countWhere, SendState.isWaiting_eq_decide, decide_not]

theorem switchBytes_eq (w : SwitchRec) :
    switchBytes w = [switchCode w.state, isolationCode w.cause] ++ le 1 w.retries ++
      le 2 ((w.hold.getD 0 + (ticksPerMs - 1)) / ticksPerMs) ++
      le 1 ((w.settle.getD 0 + (ticksPerMs - 1)) / ticksPerMs) ++ [slotCode w.slot] ++ le 2 (w.lastProbe.getD 0xFFFF) := by
  rw [switchBytes, timeLeft_eq (by decide), timeLeft_eq (by decide)]

/-- The head of the spot queue waits where no reservation is free. -/
theorem not_hasFree_eq (u : Results) : (!u.hasFree) = decide (16 ≤ u.queue.length + u.reservations) := by
  rw [Results.hasFree, ← decide_not]
  exact decide_eq_decide.mpr Nat.not_lt

/-- The monitors with a port OUTSIDE, one bit each. -/
theorem testBit_monitorOutside (u : Results) (m : Fin 12) :
    (maskOf 12 u.monitorOutside).testBit m.val = true ↔ ∃ p : PortId, u.monitors[m].ports[p].outside = true := by
  have outside : u.monitorOutside m.val = u.monitors[m].ports.toList.any (·.outside) := dif_pos m.isLt
  rw [testBit_maskOf, outside, decide_eq_true m.isLt, Bool.true_and, List.any_eq_true]
  constructor
  · rintro ⟨r, member, out⟩
    obtain ⟨p, hp, rfl⟩ := List.mem_iff_getElem.mp member
    exact ⟨⟨p, by simpa using hp⟩, out⟩
  · rintro ⟨p, out⟩
    exact ⟨u.monitors[m].ports[p], by simp, out⟩

/-! ## The payload -/

theorem State.statusBytes_length (s : State) : s.statusBytes.length = 132 := by
  rw [statusBytes_eq_flatten, List.length_flatten, statusParts_lengths]
  rfl

/-- The summary unit's record. -/
theorem status_summary (s : State) : (s.statusBytes.drop 114).take 6 = summaryUnitBytes s.summary := by
  have part : (s.statusBytes.drop 114).take 6 = (statusParts s)[17]'(by rw [statusParts_length]; decide) :=
    status_part s (k := 17) (by decide)
  simp [part, statusParts]

/-- The link's record ends the payload. -/
theorem drop_statusBytes (s : State) : s.statusBytes.drop 120 = s.linkBytes := by
  have part : (s.statusBytes.drop 120).take 12 = (statusParts s)[18]'(by rw [statusParts_length]; decide) :=
    status_part s (k := 18) (by decide)
  rw [List.take_of_length_le (by rw [List.length_drop, State.statusBytes_length])] at part
  simp [part, statusParts]

theorem sum_take_statusLengths : ∀ p : PortId, (statusLengths.take (9 + p.val)).sum = 42 + 9 * p.val := by decide

theorem getD_statusLengths : ∀ p : PortId, statusLengths.getD (9 + p.val) 0 = 9 := by decide

/-- Port `p`'s switch record stands behind those of the ports before it. -/
theorem status_port (s : State) (p : PortId) :
    (s.statusBytes.drop (42 + 9 * p.val)).take 9 = switchBytes (s.port p).switch := by
  have part := status_part s (k := 9 + p.val) (by omega)
  rw [sum_take_statusLengths, getD_statusLengths] at part
  rw [part]
  simp only [Nat.add_comm 9]
  simp [statusParts, State.port]

/-- Settles O53. -/
theorem statusSnapshot : Obligations.StatusSnapshot := by
  intro tag s executes a bytes v
  have answer := exec_of_passes (c := .status tag []) (checks := [exactLength 0 []]) rfl executes rfl rfl
  refine ⟨answer, a.statusBytes_length, status_part a (k := 0) (by decide), fun j active => ?_, fun idle => ?_,
    fun j parked => ?_, fun idle => ?_, status_part a (k := 3) (by decide), fun none => ?_, fun i waits => ?_,
    status_part a (k := 5) (by decide), fun empty => ?_, fun r rest queued => ?_, ?results,
    ⟨maskOf 12 s.results.monitorOutside, status_part a (k := 8) (by decide), maskOf_lt _ _,
      testBit_monitorOutside s.results⟩, fun p => (status_port a p).trans (switchBytes_eq _), ?summary, drop_statusBytes a⟩
  · have part : (bytes.drop 4).take 9 = activeBytes s.engine.active := status_part a (k := 1) (by decide)
    rw [part, active, activeBytes]
    simp only [List.append_assoc]
    rfl
  · have part : (bytes.drop 4).take 9 = activeBytes s.engine.active := status_part a (k := 1) (by decide)
    rw [part, idle]
    rfl
  · have part : (bytes.drop 13).take 4 = parkedBytes s.engine.parked := status_part a (k := 2) (by decide)
    rw [part, parked]
    rfl
  · have part : (bytes.drop 13).take 4 = parkedBytes s.engine.parked := status_part a (k := 2) (by decide)
    rw [part, idle]
    rfl
  · have part : (bytes.drop 29).take 1 = (s.stallSlot.map fun slot => le 1 slot.val).getD [0xFF] :=
      status_part a (k := 4) (by decide)
    rw [part, none]
    rfl
  · have part : (bytes.drop 29).take 1 = (s.stallSlot.map fun slot => le 1 slot.val).getD [0xFF] :=
      status_part a (k := 4) (by decide)
    rw [part, waits]
    rfl
  · have part : (bytes.drop 31).take 2 =
        (s.spots.head?.map fun r => [r.tag, flagByte (!s.results.hasFree)]).getD [0, 0] :=
      status_part a (k := 6) (by decide)
    rw [part, empty]
    rfl
  · have part : (bytes.drop 31).take 2 =
        (s.spots.head?.map fun r => [r.tag, flagByte (!s.results.hasFree)]).getD [0, 0] :=
      status_part a (k := 6) (by decide)
    rw [part, queued, not_hasFree_eq]
    rfl
  case results =>
    rw [← countWhere_waiting, ← countWhere_sent]
    exact status_part a (k := 7) (by decide)
  case summary =>
    rw [← countWhere_waiting, ← countWhere_sent]
    exact status_summary a

end Sys2Proof.Machine
end
section
/-! Chapter 10, refusals (R181, R182): the checks of each KIND enforce the requirements that the specification states,
in the same order, with the same reasons and details. -/
namespace Sys2Proof.Machine

/-- The check that a requirement asks for. -/
def Requirement.check (r : Requirement) : Check := { passes := r.holds, reason := r.reason, detail := r.detail }

/-- Checks refuse as the requirements do: by the first that fails, with its reason and detail. -/
def Enforce (checks : List Check) (requirements : List Requirement) : Prop :=
  firstFailure checks = firstFailure (requirements.map Requirement.check)

theorem firstFailure_append (cs ds : List Check) :
    firstFailure (cs ++ ds) = (firstFailure cs).or (firstFailure ds) := by
  induction cs with
  | nil => rfl
  | cons c cs ih => cases pass : c.passes <;> simp [firstFailure, pass, ih]

/-- Where every requirement holds, no check of theirs fails. -/
theorem firstFailure_of_hold {requirements : List Requirement} (hold : ∀ r ∈ requirements, r.holds = true) :
    firstFailure (requirements.map Requirement.check) = none :=
  (firstFailure_eq_none_iff _).mpr (List.forall_mem_map.mpr hold)

theorem firstFailure_of_requirement {before after : List Requirement} {bad : Requirement}
    (hold : ∀ r ∈ before, r.holds = true) (fails : bad.holds = false) :
    firstFailure ((before ++ bad :: after).map Requirement.check) =
      some (.refused bad.reason (BitVec.ofNat 8 bad.detail)) := by
  rw [List.map_append, firstFailure_append, firstFailure_of_hold hold, Option.none_or, List.map_cons, firstFailure,
    if_neg (by simp [Requirement.check, fails])]
  rfl

namespace Enforce
variable {checks checks' : List Check} {requirements requirements' : List Requirement}

theorem of_eq (h : checks = requirements.map Requirement.check) : Enforce checks requirements := congrArg firstFailure h

/-- What follows a check matters only where it passes. -/
theorem cons {c : Check} {r : Requirement} (same : c = r.check) (rest : r.holds = true → Enforce checks requirements) :
    Enforce (c :: checks) (r :: requirements) := by
  subst same
  cases hold : r.holds with
  | true => simpa [Enforce, firstFailure, Requirement.check, hold] using rest hold
  | false => simp [Enforce, firstFailure, Requirement.check, hold]

theorem range {passes holds : Bool} {position : Nat} (same : passes = holds)
    (rest : holds = true → Enforce checks requirements) :
    Enforce (rangeCheck passes position :: checks) (inRange holds position :: requirements) :=
  cons (by rw [same]; rfl) rest

theorem length {n : Nat} {payload : List Byte} (rest : Enforce checks requirements) :
    Enforce (exactLength n payload :: checks) (exactly n payload :: requirements) :=
  cons (by rw [exactLength, exactly, beq_eq_decide]; rfl) fun _ => rest

theorem append (first : Enforce checks requirements)
    (rest : (∀ r ∈ requirements, r.holds = true) → Enforce checks' requirements') :
    Enforce (checks ++ checks') (requirements ++ requirements') := by
  unfold Enforce at *
  rw [List.map_append, firstFailure_append, firstFailure_append, first]
  cases failure : firstFailure (requirements.map Requirement.check) with
  | none => rw [rest (List.forall_mem_map.mp ((firstFailure_eq_none_iff _).mp failure))]
  | some refusal => rfl

theorem flatMap {α : Type} {f : α → List Check} {g : α → List Requirement} {xs : List α}
    (each : ∀ x ∈ xs, Enforce (f x) (g x)) : Enforce (xs.flatMap f) (xs.flatMap g) := by
  induction xs with
  | nil => rfl
  | cons x xs ih =>
    obtain ⟨first, rest⟩ := List.forall_mem_cons.mp each
    exact append first fun _ => ih rest

end Enforce

/-! ## The checks of each KIND -/

theorem decide_lt_succ (n k : Nat) : decide (n < k + 1) = decide (n ≤ k) := decide_eq_decide.mpr Nat.lt_succ_iff

theorem decide_one_le (n : Nat) : decide (1 ≤ n) = decide (n ≠ 0) := decide_eq_decide.mpr Nat.one_le_iff_ne_zero

theorem within_eq_decide (low high n : Nat) : within low high n = decide (low ≤ n ∧ n ≤ high) :=
  (Bool.decide_and _ _).symm

theorem exactLength_eq (n : Nat) (payload : List Byte) : exactLength n payload = (exactly n payload).check := by
  rw [exactLength, exactly, beq_eq_decide]
  rfl

theorem rangeCheck_eq (passes : Bool) (position : Nat) : rangeCheck passes position = (inRange passes position).check :=
  rfl

theorem stateCheck_eq (passes : Bool) (detail : Nat) : stateCheck passes detail = (allows passes .state detail).check :=
  rfl

theorem portCheck_eq (payload : List Byte) : portCheck payload = (inRange (decide (u8 payload 0 ≤ 7)) 2).check := by
  rw [portCheck, decide_lt_succ]
  rfl

section
variable (tag : Byte) (payload : List Byte) (s : State)

/-- A KIND whose only check is the length. -/
theorem lengthOnly_enforce (n : Nat) : Enforce [exactLength n payload] [exactly n payload] := .length rfl

/-- A KIND whose checks are the length and a port. -/
theorem portRequest_enforce :
    Enforce [exactLength 1 payload, portCheck payload] [exactly 1 payload, inRange (decide (u8 payload 0 ≤ 7)) 2] :=
  .length (.cons (portCheck_eq payload) fun _ => rfl)

/-- A KIND whose checks are the length and the state. -/
theorem stateRequest_enforce (allowed : Bool) :
    Enforce [exactLength 0 payload, stateCheck allowed 0] [exactly 0 payload, allows allowed .state 0] :=
  .length (.cons rfl fun _ => rfl)

/-- A KIND whose checks are the length and an index below `n + 1`. -/
theorem indexRequest_enforce (n : Nat) :
    Enforce [exactLength 1 payload, rangeCheck (decide (u8 payload 0 < n + 1)) 2]
      [exactly 1 payload, inRange (decide (u8 payload 0 ≤ n)) 2] :=
  .length (.range (decide_lt_succ ..) fun _ => rfl)

theorem helloChecks_enforce : Enforce (helloChecks payload) (requestRequirements 0x01 tag payload s) := by
  refine .of_eq ?_
  simp only [helloChecks, exactLength_eq, rangeCheck_eq, within_eq_decide, decide_one_le]
  rfl

theorem countsChecks_enforce :
    Enforce [exactLength 2 payload, portCheck payload, rangeCheck (decide (u8 payload 1 < 2)) 3]
      (requestRequirements 0x14 tag payload s) :=
  .length (.cons (portCheck_eq payload) fun _ => .range (decide_lt_succ ..) fun _ => rfl)

theorem paramCheck_eq {passes holds : Bool} (same : passes = holds) (n position : Nat) :
    paramCheck payload n passes position = (inRange (!(u16 payload 1).testBit n || holds) position).check := by
  rw [same]
  rfl

theorem portSetChecks_enforce : Enforce (portSetChecks payload s) (requestRequirements 0x10 tag payload s) := by
  refine .length (.cons (portCheck_eq payload) fun _ => .range (decide_lt_succ ..) fun _ =>
    .cons (paramCheck_eq payload (decide_one_le _) ..) fun _ => .cons (paramCheck_eq payload (decide_one_le _) ..) fun _ =>
    .cons (paramCheck_eq payload (within_eq_decide ..) ..) fun _ =>
    .cons (paramCheck_eq payload (decide_one_le _) ..) fun _ => .cons (paramCheck_eq payload (decide_one_le _) ..) fun _ =>
    .cons (paramCheck_eq payload rfl ..) fun _ => .cons (paramCheck_eq payload (within_eq_decide ..) ..) fun _ =>
    .cons ?state fun _ => rfl)
  cases (s.port (portAt payload 0)).switch.state <;> rfl

theorem surveyRunChecks_enforce : Enforce (surveyRunChecks payload s) (requestRequirements 0x22 tag payload s) := by
  have enabled : s.survey.hasEnabled = s.survey.slots.toList.any fun slot => slot.any fun d => d.enabled := by
    rw [Survey.hasEnabled]
    congr 1
    funext slot
    cases slot <;> rfl
  refine .of_eq ?_
  simp only [surveyRunChecks, enabled, exactLength_eq, rangeCheck_eq, stateCheck_eq, decide_lt_succ]
  rfl

theorem spotChecks_enforce : Enforce (spotChecks tag payload s) (requestRequirements 0x26 tag payload s) := by
  refine .of_eq ?_
  simp only [spotChecks, exactLength_eq, rangeCheck_eq, within_eq_decide, decide_lt_succ, decide_one_le]
  rfl

theorem spotCancelChecks_enforce :
    Enforce
      [ exactLength 1 payload, rangeCheck (decide (byteAt payload 0 ≠ 0)) 2
      , { passes := !(s.spotsTagged (byteAt payload 0)).isEmpty, reason := .notFound, detail := 0 } ]
      (requestRequirements 0x27 tag payload s) := by
  have zero : decide (byteAt payload 0 ≠ 0) = decide (u8 payload 0 ≠ 0) :=
    decide_eq_decide.mpr (not_congr (BitVec.toNat_inj (y := 0)).symm)
  have some : (!(s.spotsTagged (byteAt payload 0)).isEmpty) = s.spots.any fun r => decide (r.tag = byteAt payload 0) := by
    rw [Bool.eq_iff_iff]
    simp [State.spotsTagged]
  rw [zero, some]
  exact .length (.range rfl fun _ => .cons rfl fun _ => rfl)

theorem monitorSetChecks_enforce : Enforce (monitorSetChecks payload) (requestRequirements 0x30 tag payload s) := by
  refine .of_eq ?_
  simp only [monitorSetChecks, exactLength_eq, rangeCheck_eq, within_eq_decide, decide_lt_succ]
  rfl

theorem reactionArmChecks_enforce :
    Enforce (reactionArmChecks payload s) (requestRequirements 0x3A tag payload s) := by
  have lowest : s.lowestEmptyNamed payload = (s.namedEmpty payload).head? := (List.head?_filter ..).symm
  refine .length (.range (decide_lt_succ ..) fun option => ?_)
  have option : u8 payload 3 ≤ 1 := of_decide_eq_true option
  rw [lowest]
  cases s.namedEmpty payload with
  | nil => exact .of_eq (by simp [stateCheck, allows, Requirement.check])
  | cons i rest =>
    have disarm : (u8 payload 3 = 0) ↔ ¬u8 payload 3 = 1 := by omega
    exact .of_eq (by simp [stateCheck, allows, Requirement.check, disarm])

theorem summaryGetChecks_enforce :
    Enforce
      [ exactLength 2 payload
      , rangeCheck (decide (u16 payload 0 < 512) && decide ((namedSources (u16 payload 0)).length ≤ 4)) 2 ]
      (requestRequirements 0x40 tag payload s) := by
  refine .length (.range ?_ fun _ => rfl)
  rw [decide_lt_succ, ← Bool.decide_and]
  rfl

theorem noteFlag_sourceOf : ∀ n ≤ 8, (noteFlag (sourceOf n)).val = if n = 8 then 3 else 10 := by decide

theorem flagCount_sourceOf : ∀ n ≤ 8, flagCount (sourceOf n) = if n = 8 then 4 else 11 := by decide

theorem not_decide_or_decide (p q : Prop) [Decidable p] [Decidable q] : (!decide p || decide q) = decide (p → q) := by
  by_cases p <;> simp [*]

theorem notifyMaskChecks_enforce : Enforce (notifyMaskChecks payload) (requestRequirements 0x42 tag payload s) := by
  refine .length (.range (decide_lt_succ ..) fun source => .range (decide_lt_succ ..) fun _ => .range ?_ fun _ => rfl)
  rw [noteFlag_sourceOf _ (of_decide_eq_true source), beq_eq_decide, not_decide_or_decide]

/-! ## Survey descriptions, reaction entries and summary pairs -/

theorem slotRangeChecks_enforce : Enforce (slotRangeChecks payload) (slotRangeRequirements payload) :=
  .range (decide_lt_succ ..) fun _ => .range (within_eq_decide ..) fun _ =>
    .range (decide_eq_decide.mpr (by omega)) fun _ => rfl

/-- Requirements that all hold ask for no check. -/
theorem Enforce.nil {requirements : List Requirement} (hold : ∀ r ∈ requirements, r.holds = true) :
    Enforce [] requirements := (firstFailure_of_hold hold).symm

/-- The fields behind an EMPTY occupancy are not checked. -/
theorem descriptionChecks_enforce (i : Nat) :
    Enforce (descriptionChecks payload i) (descriptionRequirements payload i) := by
  have position (n : Nat) : 2 + 9 * i + n = 2 + n + 9 * i := Nat.add_right_comm ..
  unfold descriptionChecks descriptionRequirements descriptionStart
  by_cases entry : u8 payload (2 + 9 * i) = 1
  · refine .of_eq ?_
    simp only [Nat.add_zero, rangeCheck_eq, decide_lt_succ, decide_one_le, entry, position]
    simp
  · refine .cons ?_ fun _ => ?_
    · simp only [rangeCheck_eq, decide_lt_succ, Nat.add_zero, position]
    · simp only [if_neg entry, Nat.add_zero]
      exact .nil (by simp [entry, inRange])

/-- The summary's length check, and that of the survey, by their own counts. -/
theorem surveyPutChecks_enforce : Enforce (surveyPutChecks payload s) (requestRequirements 0x20 tag payload s) := by
  have length : (decide (2 ≤ payload.length) &&
      (!within 1 16 (u8 payload 1) || payload.length == 2 + 9 * u8 payload 1)) =
      decide (2 ≤ payload.length ∧ (1 ≤ u8 payload 1 ∧ u8 payload 1 ≤ 16 → payload.length = 2 + 9 * u8 payload 1)) := by
    rw [within_eq_decide, beq_eq_decide, not_decide_or_decide, ← Bool.decide_and]
  refine .append (.append (.cons ?_ fun _ => slotRangeChecks_enforce payload) fun _ =>
    .flatMap fun i _ => descriptionChecks_enforce payload i) fun _ => rfl
  rw [surveyPutLength, length]
  rfl

theorem summaryClearChecks_enforce :
    Enforce (summaryClearChecks payload s) (requestRequirements 0x41 tag payload s) := by
  have length : (decide (5 ≤ payload.length) &&
      (!decide (u8 payload 4 ≤ 9) || payload.length == 5 + 3 * u8 payload 4)) =
      decide (5 ≤ payload.length ∧ (u8 payload 4 ≤ 9 → payload.length = 5 + 3 * u8 payload 4)) := by
    rw [beq_eq_decide, not_decide_or_decide, ← Bool.decide_and]
  refine .append (.append (.append (checks := [_, _]) (.cons ?length fun _ => .range rfl fun _ => rfl) fun _ => ?sources)
    fun hold => .flatMap fun i hi => ?pair) fun _ => rfl
  case length =>
    rw [summaryClearLength, length]
    rfl
  case sources =>
    refine .of_eq ((List.map_congr_left fun i _ => ?_).trans List.map_map.symm)
    rw [decide_lt_succ]
    rfl
  case pair =>
    have known : pairSource payload i ≤ 8 :=
      of_decide_eq_true (hold _ (List.mem_append_right _ (List.mem_map_of_mem hi)))
    refine .range ?_ fun _ => .range ?_ fun _ => rfl
    · rw [List.decide_forall_mem]
      rfl
    · rw [flagCount_sourceOf _ known]
      rfl

/-- The kinds and actions that use each field (R132). -/
theorem usesCondition_triggerOf : ∀ k ≤ 7, (triggerOf k).usesCondition = [0, 1].contains k := by decide

theorem eq_dwell_triggerOf : ∀ k ≤ 7, decide (triggerOf k = .dwell) = [1].contains k := by decide

theorem eq_condition_triggerOf : ∀ k ≤ 7, decide (triggerOf k = .condition) = [0].contains k := by decide

theorem usesMonitor_triggerOf : ∀ k ≤ 7, (triggerOf k).usesMonitor = [2, 3].contains k := by decide

theorem ne_linkLost_triggerOf : ∀ k ≤ 7, decide (triggerOf k ≠ .linkLost) = [0, 1, 2, 3, 4, 5, 6].contains k := by decide

theorem eq_linkLost_triggerOf : ∀ k ≤ 7, decide (triggerOf k = .linkLost) = decide (k = 7) := by decide

theorem eq_spot_actionOf : ∀ a ≤ 5, decide (actionOf a = .spot) = [2].contains a := by decide

theorem usesTarget_actionOf : ∀ a ≤ 5, (actionOf a).usesTarget = [0, 1, 2, 3].contains a := by decide

theorem needsPort_actionOf : ∀ a ≤ 5, (actionOf a).needsPort = [0, 1, 2].contains a := by decide

theorem Enforce.used {checks : List Check} {requirements : List Requirement} {used applies passes holds : Bool}
    {position : Nat} (when : used = applies) (same : passes = holds) (rest : Enforce checks requirements) :
    Enforce (usedCheck used passes position :: checks) (inRange (!applies || holds) position :: requirements) :=
  .range (by rw [when, same]) fun _ => rest

theorem decide_byteAt (i : Nat) (b : Byte) : decide (byteAt payload i = b) = decide (u8 payload i = b.toNat) :=
  decide_eq_decide.mpr BitVec.toNat_inj.symm

/-- The fields of an EMPTY entry, and those that its kind or its action does not use, are not checked. -/
theorem reactionSetChecks_enforce : Enforce (reactionSetChecks payload) (requestRequirements 0x38 tag payload s) := by
  refine .length (.range (decide_lt_succ ..) fun _ => .range (decide_lt_succ ..) fun _ => ?_)
  by_cases entry : u8 payload 1 = 1
  · simp only [entry, ne_eq, not_true_eq_false, decide_false, Bool.false_or]
    refine .range (decide_lt_succ ..) fun kind => ?_
    have kind : u8 payload 2 ≤ 7 := of_decide_eq_true kind
    refine .used (usesCondition_triggerOf _ kind) (decide_lt_succ ..) ?_
    refine .used (eq_dwell_triggerOf _ kind) (decide_one_le _) ?_
    refine .used (usesMonitor_triggerOf _ kind) (decide_lt_succ ..) ?_
    refine .used (ne_linkLost_triggerOf _ kind) ?_ ?_
    · rw [decide_lt_succ, decide_byteAt, ← Bool.decide_or]
      rfl
    refine .range (decide_lt_succ ..) fun action => ?_
    have action : u8 payload 8 ≤ 5 := of_decide_eq_true action
    refine .used (eq_spot_actionOf _ action) (decide_lt_succ ..) ?_
    refine .used (eq_spot_actionOf _ action) rfl ?_
    refine .used (eq_spot_actionOf _ action) rfl ?_
    refine .used (eq_spot_actionOf _ action) (decide_one_le _) ?_
    refine .used (usesTarget_actionOf _ action) ?_ ?_
    · rw [decide_lt_succ, decide_byteAt, decide_byteAt, Bool.or_assoc, ← Bool.decide_or, ← Bool.decide_or]
      rfl
    refine .range (decide_lt_succ ..) fun _ => ?_
    refine .used (eq_condition_triggerOf _ kind) rfl ?_
    have same : decide (byteAt payload 14 ≠ sameTarget) = decide (u8 payload 14 ≠ 0xFE) :=
      decide_eq_decide.mpr (not_congr BitVec.toNat_inj.symm)
    refine .range ?_ fun _ => .used (needsPort_actionOf _ action)
      (decide_eq_decide.mpr (not_congr BitVec.toNat_inj.symm)) rfl
    rw [usesTarget_actionOf _ action, eq_linkLost_triggerOf _ kind, same, Bool.not_and, Bool.or_assoc,
      not_decide_or_decide]
  · rw [if_neg entry]
    exact .nil (by simp [entry, inRange])

theorem eq_ofNat_of_toNat {kind : Byte} {n : Nat} (h : kind.toNat = n) : kind = BitVec.ofNat 8 n := by
  rw [← h, BitVec.ofNat_toNat, BitVec.setWidth_eq]

/-- The checks that answer a request of a known KIND enforce its requirements (R181, R182). -/
theorem answerRequest_enforce {kind : Byte} {c : Instr} (known : requestCommand kind tag payload = some c) :
    ∃ (checks : List Check) (done : State × List Byte),
      answerRequest kind tag payload s = validated checks s done ∧
        Enforce checks (requestRequirements kind tag payload s) := by
  unfold requestCommand at known
  split at known
  case h_25 => cases known
  all_goals
    rename_i code
    obtain rfl := eq_ofNat_of_toNat code
    refine ⟨_, _, rfl, ?_⟩
  exacts [helloChecks_enforce tag payload s, lengthOnly_enforce payload 0, lengthOnly_enforce payload 0,
    portSetChecks_enforce tag payload s, portRequest_enforce payload, portRequest_enforce payload,
    portRequest_enforce payload, countsChecks_enforce tag payload s, surveyPutChecks_enforce tag payload s,
    .length (slotRangeChecks_enforce payload), surveyRunChecks_enforce tag payload s, stateRequest_enforce payload _,
    stateRequest_enforce payload _, stateRequest_enforce payload _, spotChecks_enforce tag payload s,
    spotCancelChecks_enforce tag payload s, monitorSetChecks_enforce tag payload s, indexRequest_enforce payload 11,
    reactionSetChecks_enforce tag payload s, indexRequest_enforce payload 23, reactionArmChecks_enforce tag payload s,
    summaryGetChecks_enforce tag payload s, summaryClearChecks_enforce tag payload s,
    notifyMaskChecks_enforce tag payload s]

end

/-! ## Requests that are refused, and requests that are carried out -/

section
variable {kind tag : Byte} {payload : List Byte} {c : Instr} {s : State}

/-- The arrival of the frame changes nothing that a requirement reads. -/
theorem requestRequirements_frameArrives :
    requestRequirements kind tag payload s.frameArrives = requestRequirements kind tag payload s := rfl

/-- The first requirement that fails refuses the request. -/
theorem refuses_of_requirement {before after : List Requirement} {bad : Requirement} (executes : s.Executes kind tag)
    (known : requestCommand kind tag payload = some c)
    (requirements : requestRequirements kind tag payload s = before ++ bad :: after)
    (hold : ∀ r ∈ before, r.holds = true) (fails : bad.holds = false) :
    Refuses c kind tag bad.reason bad.detail s := by
  obtain ⟨checks, done, answer, enforce⟩ := answerRequest_enforce tag payload s.frameArrives known
  refine refuses_of_executes (exec_of_requestCommand known s) executes (answer.trans (validated_of_fails _ _ ?_))
  rw [enforce, requestRequirements_frameArrives, requirements, firstFailure_of_requirement hold fails]

theorem exec_of_requirements (executes : s.Executes kind tag) (known : requestCommand kind tag payload = some c)
    (hold : ∀ r ∈ requestRequirements kind tag payload s, r.holds = true) :
    ∃ (t : State) (reply : List Byte), exec c s = .next (t.reply kind tag (.ok reply)).arbitrate := by
  obtain ⟨checks, done, answer, enforce⟩ := answerRequest_enforce tag payload s.frameArrives known
  exact ⟨_, _, exec_of_passes (exec_of_requestCommand known s) executes answer (enforce.trans (firstFailure_of_hold hold))⟩

theorem answerRequest_of_unknown (unknown : requestCommand kind tag payload = none) (s : State) :
    answerRequest kind tag payload s = (s, .refused .unknownKind 0) := by
  unfold answerRequest
  split
  case h_25 => rfl
  all_goals
    rename_i code
    obtain rfl := eq_ofNat_of_toNat code
    cases unknown

theorem refuses_unknownKind (executes : s.Executes kind tag) (notAck : kind ≠ 0x70)
    (unknown : requestCommand kind tag payload = none) :
    Refuses (.unknownKind kind tag payload) kind tag .unknownKind 0 s :=
  refuses_of_executes (exec_of_requestFrame (.inr ⟨unknown, notAck, rfl⟩) s) executes
    (answerRequest_of_unknown unknown s.frameArrives)

/-- A KIND of fixed length requires that length first. -/
theorem requestRequirements_of_fixedLength {n : Nat} (fixed : fixedLength kind = some n) :
    ∃ rest, requestRequirements kind tag payload s = exactly n payload :: rest := by
  unfold fixedLength at fixed
  split at fixed
  case h_23 => cases fixed
  all_goals
    rename_i code
    obtain rfl := eq_ofNat_of_toNat code
    obtain rfl := Option.some.inj fixed
    exact ⟨_, rfl⟩

theorem refuses_length {n : Nat} (executes : s.Executes kind tag) (known : requestCommand kind tag payload = some c)
    (fixed : fixedLength kind = some n) (other : payload.length ≠ n) :
    Refuses c kind tag .length payload.length s := by
  obtain ⟨rest, requirements⟩ := requestRequirements_of_fixedLength (tag := tag) (payload := payload) (s := s) fixed
  exact refuses_of_requirement (before := []) executes known requirements (List.forall_mem_nil _) (decide_eq_false other)

end
end Sys2Proof.Machine
end
section
/-! Chapter 10, each refusal that the chapters of the parts name (R181, R182). -/
namespace Sys2Proof.Machine

section
variable {tag : Byte} {payload : List Byte} {s : State}

/-! ## The link -/

theorem hello_refuses_window {window ackTimeout limit watchdog : Byte} (executes : s.Executes 0x01 tag)
    (outside : window = 0 ∨ 4 < window.toNat) :
    Refuses (.hello tag [window, ackTimeout, limit, watchdog]) 0x01 tag .range 2 s := by
  refine refuses_of_requirement (before := [exactly 4 [window, ackTimeout, limit, watchdog]])
    (bad := inRange (decide (1 ≤ window.toNat ∧ window.toNat ≤ 4)) 2) executes rfl rfl (by simp [exactly])
    (decide_eq_false ?_)
  rcases outside with rfl | big
  · decide
  · omega

theorem hello_refuses_ackTimeout {window limit watchdog : Byte} (executes : s.Executes 0x01 tag)
    (least : 1 ≤ window.toNat) (most : window.toNat ≤ 4) :
    Refuses (.hello tag [window, 0, limit, watchdog]) 0x01 tag .range 3 s :=
  refuses_of_requirement (before := [ exactly 4 [window, 0, limit, watchdog]
    , inRange (decide (1 ≤ window.toNat ∧ window.toNat ≤ 4)) 2 ])
    (bad := inRange (decide ((0 : Byte).toNat ≠ 0)) 3) executes rfl rfl (by simp [exactly, inRange, least, most]) rfl

theorem hello_refuses_limit {window ackTimeout limit watchdog : Byte} (executes : s.Executes 0x01 tag)
    (least : 1 ≤ window.toNat) (most : window.toNat ≤ 4) (timeout : ackTimeout ≠ 0)
    (outside : limit = 0 ∨ 7 < limit.toNat) :
    Refuses (.hello tag [window, ackTimeout, limit, watchdog]) 0x01 tag .range 4 s := by
  refine refuses_of_requirement (before := [ exactly 4 [window, ackTimeout, limit, watchdog]
    , inRange (decide (1 ≤ window.toNat ∧ window.toNat ≤ 4)) 2, inRange (decide (ackTimeout.toNat ≠ 0)) 3 ])
    (bad := inRange (decide (1 ≤ limit.toNat ∧ limit.toNat ≤ 7)) 4) executes rfl rfl
    (by simp [exactly, inRange, least, most, Byte.toNat_ne_zero timeout]) (decide_eq_false ?_)
  rcases outside with rfl | big
  · decide
  · omega

/-! ## The ports -/

/-- A request on a port outside 0..7. -/
theorem portRequests_refuse (b choice : Byte) (unknown : 8 ≤ b.toNat) :
    (s.Executes 0x11 tag → Refuses (.portGet tag [b]) 0x11 tag .range 2 s) ∧
    (s.Executes 0x12 tag → Refuses (.portJoin tag [b]) 0x12 tag .range 2 s) ∧
    (s.Executes 0x13 tag → Refuses (.portIsolate tag [b]) 0x13 tag .range 2 s) ∧
    (s.Executes 0x14 tag → Refuses (.counts tag [b, choice]) 0x14 tag .range 2 s) := by
  have fails : decide (b.toNat ≤ 7) = false := decide_eq_false (Nat.not_le.mpr unknown)
  have one : ∀ r ∈ [exactly 1 [b]], r.holds = true := by simp [exactly]
  have two : ∀ r ∈ [exactly 2 [b, choice]], r.holds = true := by simp [exactly]
  exact ⟨fun executes => refuses_of_requirement (bad := inRange (decide (b.toNat ≤ 7)) 2) executes rfl rfl one fails,
    fun executes => refuses_of_requirement (bad := inRange (decide (b.toNat ≤ 7)) 2) executes rfl rfl one fails,
    fun executes => refuses_of_requirement (bad := inRange (decide (b.toNat ≤ 7)) 2) executes rfl rfl one fails,
    fun executes => refuses_of_requirement (bad := inRange (decide (b.toNat ≤ 7)) 2) executes rfl rfl two fails⟩

/-- PORT_SET with an empty write set on a port in HOLDOFF or PROBING. -/
theorem portSet_refuses_state (executes : s.Executes 0x10 tag) (length : payload.length = 14) (none : u16 payload 1 = 0)
    {p : PortId} (port : byteAt payload 0 = portByte p)
    (busy : (s.port p).switch.state = .holdoff ∨ (s.port p).switch.state = .probing) :
    Refuses (.portSet tag payload) 0x10 tag .state 2 s := by
  have known : u8 payload 0 ≤ 7 := (u8_of_byteAt port).trans_le (Nat.le_of_lt_succ p.isLt)
  refine refuses_of_requirement (before := (portSetRequirements payload s).take 10)
    (bad := allows (decide ((s.port (portAt payload 0)).switch.state = .isolated ∨
      (s.port (portAt payload 0)).switch.state = .joined)) .state 2) executes rfl rfl ?_ (decide_eq_false ?_)
  · simp [portSetRequirements, exactly, inRange, length, none, known]
  · rw [portAt_of_byteAt port]
    rcases busy with state | state <;> simp [state]

/-! ## The survey and the spots -/

theorem surveyPut_refuses_length (executes : s.Executes 0x20 tag)
    (other : payload.length < 2 ∨ (1 ≤ u8 payload 1 ∧ u8 payload 1 ≤ 16 ∧ payload.length ≠ 2 + 9 * u8 payload 1)) :
    Refuses (.surveyPut tag payload) 0x20 tag .length payload.length s := by
  refine refuses_of_requirement (before := [])
    (bad := ⟨decide (2 ≤ payload.length ∧ (1 ≤ u8 payload 1 ∧ u8 payload 1 ≤ 16 →
      payload.length = 2 + 9 * u8 payload 1)), .length, payload.length⟩)
    executes rfl rfl (List.forall_mem_nil _) (decide_eq_false ?_)
  rintro ⟨header, whole⟩
  omega

theorem surveyPut_refuses_state (executes : s.Executes 0x20 tag) (busy : s.survey.state ≠ .stopped) :
    Refuses (.surveyPut tag ([0, 1] ++ List.replicate 9 0)) 0x20 tag .state 0 s :=
  refuses_of_requirement
    (before := ⟨true, .length, 11⟩ :: slotRangeRequirements ([0, 1] ++ List.replicate 9 0) ++
      descriptionRequirements ([0, 1] ++ List.replicate 9 0) 0)
    (bad := allows (decide (s.survey.state = .stopped)) .state 0) executes rfl rfl (by decide) (decide_eq_false busy)

/-- The fields of SURVEY_RUN are in their ranges. -/
theorem surveyRun_fields_hold (length : payload.length = 5) (mode : u8 payload 0 < 3) (pacing : u8 payload 1 < 2)
    (policy : u8 payload 2 < 2) (interval : 10 ≤ u16 payload 3) :
    ∀ r ∈ (requestRequirements 0x22 tag payload s).take 5, r.holds = true := by
  have fields : (requestRequirements 0x22 tag payload s).take 5 =
      [ exactly 5 payload, inRange (decide (u8 payload 0 ≤ 2)) 2, inRange (decide (u8 payload 1 ≤ 1)) 3
      , inRange (decide (u8 payload 2 ≤ 1)) 4, inRange (decide (10 ≤ u16 payload 3)) 5 ] := rfl
  rw [fields]
  simp [exactly, inRange, length, interval, Nat.le_of_lt_succ mode, Nat.le_of_lt_succ pacing,
    Nat.le_of_lt_succ policy]

theorem surveyRun_refuses_state (executes : s.Executes 0x22 tag)
    (fields : ∀ r ∈ (requestRequirements 0x22 tag payload s).take 5, r.holds = true) (busy : s.survey.state ≠ .stopped) :
    Refuses (.surveyRun tag payload) 0x22 tag .state 0 s :=
  refuses_of_requirement (bad := allows (decide (s.survey.state = .stopped)) .state 0) executes rfl rfl fields
    (decide_eq_false busy)

theorem surveyRun_refuses_notFound (executes : s.Executes 0x22 tag)
    (fields : ∀ r ∈ (requestRequirements 0x22 tag payload s).take 5, r.holds = true) (idle : s.survey.state = .stopped)
    (disabled : ∀ (i : SlotId) (d : SurveyEntry), s.survey.slots[i] = some d → d.enabled = false) :
    Refuses (.surveyRun tag payload) 0x22 tag .notFound 0 s := by
  refine refuses_of_requirement
    (before := (requestRequirements 0x22 tag payload s).take 5 ++ [allows (decide (s.survey.state = .stopped)) .state 0])
    (bad := allows (s.survey.slots.toList.any fun slot => slot.any fun d => d.enabled) .notFound 0) executes rfl rfl
    (List.forall_mem_append.mpr ⟨fields, by simp [allows, idle]⟩) (List.any_eq_false.mpr fun slot member => ?_)
  obtain ⟨i, hi, rfl⟩ := List.mem_iff_getElem.mp member
  have index : i < 48 := by simpa using hi
  cases entry : s.survey.slots[i] with
  | none => simp [entry]
  | some d => simp [entry, disabled ⟨i, index⟩ d entry]

/-- A request whose only field is its length, in a state that does not allow it. -/
theorem surveyHold_refuses (executes : s.Executes 0x23 tag) (other : s.survey.state ≠ .running) :
    Refuses (.surveyHold tag []) 0x23 tag .state 0 s :=
  refuses_of_requirement (before := [exactly 0 []]) (bad := allows (decide (s.survey.state = .running)) .state 0)
    executes rfl rfl (by decide) (decide_eq_false other)

theorem surveyResume_refuses (executes : s.Executes 0x24 tag) (other : s.survey.state ≠ .held) :
    Refuses (.surveyResume tag []) 0x24 tag .state 0 s :=
  refuses_of_requirement (before := [exactly 0 []]) (bad := allows (decide (s.survey.state = .held)) .state 0)
    executes rfl rfl (by decide) (decide_eq_false other)

theorem surveyStop_refuses (executes : s.Executes 0x25 tag) (stopped : s.survey.state = .stopped) :
    Refuses (.surveyStop tag []) 0x25 tag .state 0 s :=
  refuses_of_requirement (before := [exactly 0 []]) (bad := allows (decide (s.survey.state ≠ .stopped)) .state 0)
    executes rfl rfl (by decide) (decide_eq_false (not_not.mpr stopped))

theorem spot_refuses_tag (executes : s.Executes 0x26 tag) (length : payload.length = 6)
    (outside : tag.toNat = 0 ∨ 128 ≤ tag.toNat) : Refuses (.spot tag payload) 0x26 tag .range 1 s :=
  refuses_of_requirement (before := [exactly 6 payload]) (bad := inRange (decide (1 ≤ tag.toNat ∧ tag.toNat ≤ 127)) 1)
    executes rfl rfl (by simp [exactly, length]) (decide_eq_false (by omega))

theorem spot_refuses_full (executes : s.Executes 0x26 tag) (length : payload.length = 6) (least : 1 ≤ tag.toNat)
    (most : tag.toNat ≤ 127) (port : u8 payload 0 < 8) (quantity : u8 payload 1 < 5) (e : u8 payload 2 ≤ 8)
    (shift : u8 payload 3 ≤ 8) (timeout : 1 ≤ u16 payload 4) (full : 8 ≤ s.spots.length) :
    Refuses (.spot tag payload) 0x26 tag .full 0 s :=
  refuses_of_requirement
    (before := [ exactly 6 payload, inRange (decide (1 ≤ tag.toNat ∧ tag.toNat ≤ 127)) 1
      , inRange (decide (u8 payload 0 ≤ 7)) 2, inRange (decide (u8 payload 1 ≤ 4)) 3
      , inRange (decide (u8 payload 2 ≤ 8)) 4, inRange (decide (u8 payload 3 ≤ 8)) 5
      , inRange (decide (u16 payload 4 ≠ 0)) 6 ])
    (bad := allows (decide (s.spots.length < 8)) .full 0) executes rfl rfl
    (by simp [exactly, inRange, length, least, most, e, shift, Nat.le_of_lt_succ port, Nat.le_of_lt_succ quantity,
      Nat.one_le_iff_ne_zero.mp timeout])
    (decide_eq_false (Nat.not_lt.mpr full))

theorem spotCancel_refuses_zero (executes : s.Executes 0x27 tag) : Refuses (.spotCancel tag [0]) 0x27 tag .range 2 s :=
  refuses_of_requirement (before := [exactly 1 [0]]) (bad := inRange false 2) executes rfl rfl (by decide) rfl

theorem spotCancel_refuses_notFound {target : Byte} (executes : s.Executes 0x27 tag) (tagged : target ≠ 0)
    (absent : ∀ r ∈ s.spots, r.tag ≠ target) : Refuses (.spotCancel tag [target]) 0x27 tag .notFound 0 s :=
  refuses_of_requirement (before := [exactly 1 [target], inRange (decide (target.toNat ≠ 0)) 2])
    (bad := allows (s.spots.any fun r => decide (r.tag = target)) .notFound 0) executes rfl rfl
    (by simp [exactly, inRange, Byte.toNat_ne_zero tagged])
    (List.any_eq_false.mpr fun r hr => by simpa using absent r hr)

/-! ## The monitors, the reaction table and the summary -/

theorem monitorGet_refuses {b : Byte} (executes : s.Executes 0x31 tag) (unknown : 12 ≤ b.toNat) :
    Refuses (.monitorGet tag [b]) 0x31 tag .range 2 s :=
  refuses_of_requirement (before := [exactly 1 [b]]) (bad := inRange (decide (b.toNat ≤ 11)) 2) executes rfl rfl
    (by simp [exactly]) (decide_eq_false (Nat.not_le.mpr unknown))

/-- MONITOR_SET with a high limit below its low limit. -/
theorem monitorSet_refuses (executes : s.Executes 0x30 tag) (length : payload.length = 14) (index : u8 payload 0 < 12)
    (quantity : u8 payload 1 < 5) (least : 1 ≤ u8 payload 11) (most : u8 payload 11 ≤ 15) (applies : u8 payload 12 < 3)
    (alert : u8 payload 13 < 2) (low : u32 payload 3 ≤ 1048575) (below : u32 payload 7 < u32 payload 3) :
    Refuses (.monitorSet tag payload) 0x30 tag .range 9 s :=
  refuses_of_requirement
    (before := [ exactly 14 payload, inRange (decide (u8 payload 0 ≤ 11)) 2, inRange (decide (u8 payload 1 ≤ 4)) 3
      , inRange (decide (u32 payload 3 ≤ 1048575)) 5, inRange (decide (u32 payload 7 ≤ 1048575)) 9
      , inRange (decide (1 ≤ u8 payload 11 ∧ u8 payload 11 ≤ 15)) 13, inRange (decide (u8 payload 12 ≤ 2)) 14
      , inRange (decide (u8 payload 13 ≤ 1)) 15 ])
    (bad := inRange (decide (u32 payload 3 ≤ u32 payload 7)) 9) executes rfl rfl
    (by simp [exactly, inRange, length, least, most, low, below.le.trans low, Nat.le_of_lt_succ index,
      Nat.le_of_lt_succ quantity, Nat.le_of_lt_succ applies, Nat.le_of_lt_succ alert])
    (decide_eq_false (Nat.not_le.mpr below))

theorem reactionGet_refuses {b : Byte} (executes : s.Executes 0x39 tag) (unknown : 24 ≤ b.toNat) :
    Refuses (.reactionGet tag [b]) 0x39 tag .range 2 s :=
  refuses_of_requirement (before := [exactly 1 [b]]) (bad := inRange (decide (b.toNat ≤ 23)) 2) executes rfl rfl
    (by simp [exactly]) (decide_eq_false (Nat.not_le.mpr unknown))

/-- The lowest EMPTY entry of the set that REACTION_ARM names. -/
theorem State.head?_namedEmpty {i : EntryId} (named : (u24 payload 0).testBit i.val = true)
    (empty : s.reactions[i] = none)
    (lowest : ∀ k : EntryId, k.val < i.val → (u24 payload 0).testBit k.val = true → s.reactions[k] ≠ none) :
    (s.namedEmpty payload).head? = some i := by
  rw [State.namedEmpty, List.head?_filter]
  refine find?_indexes (fun k => (u24 payload 0).testBit k.val && s.reactions[k].isNone) i ?_ fun k below => ?_
  · simp only [named, empty]
    rfl
  · rw [Bool.and_eq_false_imp, Option.isNone_eq_false_iff, Option.isSome_iff_ne_none]
    exact lowest k below

theorem reactionArm_refuses {b0 b1 b2 : Byte} {i : EntryId} (executes : s.Executes 0x3A tag)
    (first : (s.namedEmpty [b0, b1, b2, 1]).head? = some i) :
    Refuses (.reactionArm tag [b0, b1, b2, 1]) 0x3A tag .state i.val s := by
  have refused := refuses_of_requirement
    (before := [exactly 4 [b0, b1, b2, 1], inRange (decide ((1 : Byte).toNat ≤ 1)) 5])
    (bad := allows (decide ((1 : Byte).toNat = 1 → s.namedEmpty [b0, b1, b2, 1] = [])) .state
        (((s.namedEmpty [b0, b1, b2, 1]).head?.map (·.val)).getD 0))
    (c := .reactionArm tag [b0, b1, b2, 1]) executes rfl rfl (by simp [exactly, inRange]) (decide_eq_false fun empty => by
      rw [empty rfl] at first
      cases first)
  rw [first] at refused
  exact refused

theorem summaryClear_refuses_length (executes : s.Executes 0x41 tag)
    (other : payload.length < 5 ∨ (u8 payload 4 ≤ 9 ∧ payload.length ≠ 5 + 3 * u8 payload 4)) :
    Refuses (.summaryClear tag payload) 0x41 tag .length payload.length s := by
  refine refuses_of_requirement (before := [])
    (bad := ⟨decide (5 ≤ payload.length ∧ (u8 payload 4 ≤ 9 → payload.length = 5 + 3 * u8 payload 4)), .length,
      payload.length⟩)
    executes rfl rfl (List.forall_mem_nil _) (decide_eq_false ?_)
  rintro ⟨header, whole⟩
  omega

theorem summaryGet_refuses {lo hi : Byte} (executes : s.Executes 0x40 tag) (unknown : 2 ≤ hi.toNat) :
    Refuses (.summaryGet tag [lo, hi]) 0x40 tag .range 2 s := by
  refine refuses_of_requirement (before := [exactly 2 [lo, hi]])
    (bad := inRange (decide (u16 [lo, hi] 0 ≤ 511 ∧ (namedSources (u16 [lo, hi] 0)).length ≤ 4)) 2) executes rfl rfl
    (by simp [exactly]) (decide_eq_false ?_)
  rintro ⟨known, _⟩
  have set : u16 [lo, hi] 0 = lo.toNat + 256 * hi.toNat := rfl
  omega

/-- NOTIFY_MASK with a flag above those of every source. -/
theorem notifyMask_refuses {p : PortId} {lo : Byte} (executes : s.Executes 0x42 tag) :
    Refuses (.notifyMask tag [portByte p, 1, lo, 4]) 0x42 tag .range 4 s := by
  have source : u8 [portByte p, 1, lo, 4] 0 = p.val := toNat_portByte p
  refine refuses_of_requirement
    (before := [ exactly 4 [portByte p, 1, lo, 4], inRange (decide (u8 [portByte p, 1, lo, 4] 0 ≤ 8)) 2
      , inRange (decide ((1 : Byte).toNat ≤ 1)) 3 ])
    (bad := inRange (decide ((1 : Byte).toNat = 1 →
      u16 [portByte p, 1, lo, 4] 2 < 2 ^ (if u8 [portByte p, 1, lo, 4] 0 = 8 then 3 else 10))) 4) executes rfl rfl
    ?_ (decide_eq_false fun small => ?_)
  · have known (rest : List Byte) : u8 (portByte p :: rest) 0 ≤ 8 := (toNat_portByte p).trans_le (by omega)
    simp [exactly, inRange, known]
  · have set : u16 [portByte p, 1, lo, 4] 2 = lo.toNat + 256 * 4 := rfl
    have few := small rfl
    rw [set, source, if_neg (by omega)] at few
    omega

end

/-- Settles O51: the checks enforce the requirements, and each refusal named by a chapter is that of the first
requirement that fails. -/
theorem requestsAreRefused : Obligations.RequestsAreRefused := by
  intro tag s
  refine ⟨fun kind payload c executes known => ⟨fun before after bad requirements hold fails =>
      refuses_of_requirement executes known requirements hold fails, exec_of_requirements executes known⟩,
    fun kind payload executes notAck unknown => refuses_unknownKind executes notAck unknown,
    fun kind payload c n executes known fixed other => refuses_length executes known fixed other,
    fun payload => surveyPut_refuses_length, fun payload => summaryClear_refuses_length, portRequests_refuse,
    fun payload executes length none p port busy => portSet_refuses_state executes length none port busy,
    fun payload executes length => ⟨spot_refuses_tag executes length, spot_refuses_full executes length⟩,
    fun target executes => ⟨?zero, spotCancel_refuses_notFound executes⟩,
    surveyHold_refuses, surveyResume_refuses, surveyStop_refuses,
    fun payload executes length mode pacing policy interval => ?surveyRun, fun payload executes shape busy => ?surveyPut,
    fun b unknown executes => monitorGet_refuses executes unknown,
    fun payload => monitorSet_refuses, fun b unknown executes => reactionGet_refuses executes unknown,
    fun b0 b1 b2 i executes set empty lowest => reactionArm_refuses executes (State.head?_namedEmpty set empty lowest),
    fun window ackTimeout limit watchdog executes =>
      ⟨hello_refuses_window executes, fun least most zero => ?ackTimeout, hello_refuses_limit executes⟩,
    fun lo hi => summaryGet_refuses, fun p lo => notifyMask_refuses⟩
  case zero =>
    rintro rfl
    exact spotCancel_refuses_zero executes
  case surveyRun =>
    have fields := surveyRun_fields_hold (tag := tag) (s := s) length mode pacing policy interval
    exact ⟨surveyRun_refuses_state executes fields, surveyRun_refuses_notFound executes fields⟩
  case surveyPut =>
    subst shape
    exact surveyPut_refuses_state executes busy
  case ackTimeout =>
    subst zero
    exact hello_refuses_ackTimeout executes least most

end Sys2Proof.Machine
end
